-- ==== Sys2Proof/Word.lean ====
section
/-! DEFINITION. The word types of SEQ: bytes and target addresses. No operation of SEQ moves or computes more
than these (spec/20_memory.md R85, R88; spec/00_scope.md R13, R19). -/

namespace Sys2Proof

/-- A data byte: the FIFO slots, the data bus and the output stream are 8 bits wide (00_scope.md R13). -/
abbrev Byte := BitVec 8

/-- Half a byte: the value of one hexadecimal character (30_encoding.md R126). -/
abbrev Nibble := BitVec 4

/-- A target address: the address bus and the AddressCursor are 16 bits wide (00_scope.md R13). -/
abbrev Addr := BitVec 16

end Sys2Proof
end

