-- ==== Sys2Proof/Config.lean ====
section
/-! DEFINITION. The configuration of SEQ (spec/00_scope.md R8 to R18, spec/42_bus_sequencer.md R230, R231): what an
implementation fixes for a whole run, its well-formedness checks, and the free values, which the spec leaves open
and which are constants WITHOUT a body here, so that no proof can see what they are. -/

namespace Sys2Proof

/-- The level of a control line: driven low, driven high, high-impedance (00_scope.md R14). -/
inductive Level where
  | low | high | hiZ
deriving DecidableEq, Repr, Inhabited

/-- `inv` of 42_bus_sequencer.md R231: `inv(L) = H`, `inv(H) = L`. The spec gives no `inv(Z)`, and R231 keeps the
only level it is applied to, `pulse_level`, from being `Z`; `Z` is returned there. -/
def Level.inv : Level → Level
  | .low => .high
  | .high => .low
  | .hiZ => .hiZ

/-- The name of a control line (00_scope.md R14). -/
inductive Line where
  | ce | oe | we
deriving DecidableEq, Repr, Inhabited

/-- A control-line pattern `(CE, OE, WE)` (10_state.md R46). -/
structure Ctl where
  ce : Level
  oe : Level
  we : Level
deriving DecidableEq, Repr, Inhabited

/-- The level of one line of a pattern. -/
def Ctl.line (c : Ctl) : Line → Level
  | .ce => c.ce
  | .oe => c.oe
  | .we => c.we

/-- The pattern with one line at a new level: `CTL[line] <- level` (42_bus_sequencer.md R245). -/
def Ctl.setLine (c : Ctl) (l : Line) (v : Level) : Ctl :=
  match l with
  | .ce => { c with ce := v }
  | .oe => { c with oe := v }
  | .we => { c with we := v }

/-- A device profile, field by field as 42_bus_sequencer.md R230 lists them. `tPulse` is a lower bound that no rule
depends on (70_reset_and_hazards.md R395; log 27). -/
structure Profile where
  size : Nat
  ctlIdle : Ctl
  ctlRead : Ctl
  ctlBlank : Ctl
  ctlProg : Ctl
  pulseLine : Line
  pulseLevel : Level
  tPulse : Nat
  ident : List Byte
  key : Byte
deriving DecidableEq, Repr, Inhabited

/-- `FC_POLICY` (00_scope.md R9). -/
inductive FcPolicy where
  | hysteresis (hwm lwm : Nat)
  | single (m : Nat)
deriving DecidableEq, Repr, Inhabited

/-- `POP_POLICY` (00_scope.md R10). -/
inductive PopPolicy where
  | block | failFast
deriving DecidableEq, Repr, Inhabited

/-- `VARIANT` (00_scope.md R4). -/
inductive Variant where
  | singleFamily | multiFamily
deriving DecidableEq, Repr, Inhabited

/-- The five durations of 00_scope.md R15 that belong to no profile: lower bounds, in any unit, read by no rule
(70_reset_and_hazards.md R395; log 27). -/
structure Durations where
  tSettle : Nat
  tSample : Nat
  tSetup : Nat
  tOvf : Nat
  tUdf : Nat
deriving DecidableEq, Repr, Inhabited

/-- The parameters of a run (00_scope.md R4, R8 to R12, R15, R16, R18). `PROGRAM_FN` (R17) is a function and is
`Config.programFn` below. -/
structure Config where
  variant : Variant
  capacity : Nat
  fcPolicy : FcPolicy
  popPolicy : PopPolicy
  sentinel : Byte
  profiles : List Profile
  defaultProfile : Nat
  hasCancel : Bool
  durations : Durations
deriving DecidableEq, Repr, Inhabited

/-- The well-formedness checks a configuration can fail (60_exceptions.md R348 `ConfigRefused(check)`). -/
inductive ConfigCheck where
  /-- 00_scope.md R8: `C >= 3`. -/
  | capacity
  /-- 00_scope.md R9: `1 <= LWM <= HWM <= C - 2`, resp. `0 <= M <= C - 2`. -/
  | watermarks
  /-- 00_scope.md R12: `NPROF >= 1`, and `NPROF = 1` in SingleFamily. R12 states the numbers; that a configuration with
  another is refused is a DESIGN CHOICE (log 34). -/
  | profileCount
  /-- 00_scope.md R12 and 93_implementation_defined.md U11: `DEFAULT_PROFILE` is an index of the table. -/
  | defaultProfile
  /-- 00_scope.md R13 and 42_bus_sequencer.md R231: `1 <= size <= 65536`. -/
  | profileSize
  /-- 42_bus_sequencer.md R231: `pulse_level` is `L` or `H`. -/
  | pulseLevel
  /-- 42_bus_sequencer.md R231: `ctl_prog[pulse_line] = inv(pulse_level)`. -/
  | pulsePattern
  /-- 42_bus_sequencer.md R231: the keys are pairwise distinct in MultiFamily. -/
  | keys
deriving DecidableEq, Repr

/-- The check of 00_scope.md R9 on the watermarks of a FIFO of capacity `c`. -/
def FcPolicy.fits (c : Nat) : FcPolicy → Bool
  | .hysteresis hwm lwm => decide (1 ≤ lwm ∧ lwm ≤ hwm ∧ hwm + 2 ≤ c)
  | .single m => decide (m + 2 ≤ c)

/-- Whether a configuration passes one check. That the number of profiles (00_scope.md R12) is among the checks is a
DESIGN CHOICE (log 34): 60_exceptions.md R348 and 93_implementation_defined.md U16 name only those of 00_scope.md R8, R9,
R13 and 42_bus_sequencer.md R231, and U11 that of `DEFAULT_PROFILE`. -/
def Config.passes (c : Config) : ConfigCheck → Bool
  | .capacity => decide (3 ≤ c.capacity)
  | .watermarks => c.fcPolicy.fits c.capacity
  | .profileCount =>
    match c.variant with
    | .singleFamily => decide (c.profiles.length = 1)
    | .multiFamily => decide (1 ≤ c.profiles.length)
  | .defaultProfile => decide (c.defaultProfile < c.profiles.length)
  | .profileSize => c.profiles.all fun p => decide (1 ≤ p.size ∧ p.size ≤ 65536)
  | .pulseLevel => c.profiles.all fun p => decide (p.pulseLevel ≠ .hiZ)
  | .pulsePattern => c.profiles.all fun p => decide (p.ctlProg.line p.pulseLine = p.pulseLevel.inv)
  | .keys =>
    match c.variant with
    | .singleFamily => true
    | .multiFamily => decide ((c.profiles.map Profile.key).Nodup)

/-- The checks, in the order they are made. DESIGN CHOICE (log 33): the spec gives the checks no order
(60_exceptions.md R348, 70_reset_and_hazards.md R383, 93_implementation_defined.md U16), and the order settles only which
check `ConfigRefused` names where several fail. -/
def Config.checks : List ConfigCheck :=
  [.capacity, .watermarks, .profileCount, .defaultProfile, .profileSize, .pulseLevel, .pulsePattern, .keys]

/-- The check that `ConfigRefused` names, if any fails (60_exceptions.md R348): the first in the order of
`Config.checks` (log 33). -/
def Config.failed (c : Config) : Option ConfigCheck :=
  Config.checks.find? fun k => !c.passes k

/-- A configuration that passes every check (70_reset_and_hazards.md R383). -/
def Config.WellFormed (c : Config) : Prop :=
  ∀ k : ConfigCheck, c.passes k = true

/-! ## Free values

Constants without a body: a statement about one holds whatever it is. -/

/-- `HEXVAL_BAD` (30_encoding.md R126; 93_implementation_defined.md U2: "any 4-bit value, drawn again at each
use"). The argument is the number of the draw (log 7). -/
opaque Config.freeNibble : Nat → Nibble

/-- The byte a read cycle returns when the target drives no defined value (42_bus_sequencer.md R243;
93_implementation_defined.md U3: "any value"). The argument is the number of the draw (log 8). -/
opaque Config.freeByte : Nat → Byte

/-- `ADDR` at reset: any 16-bit value (10_state.md R44; 93_implementation_defined.md U1; log 6). -/
opaque Config.resetAddr : Addr

/-- `PROGRAM_FN(old, d)` where `old` is not the erased value (00_scope.md R17; 93_implementation_defined.md U4;
log 9). -/
opaque Config.programOther : Byte → Byte → Byte

/-- `PROGRAM_FN` (20_memory.md R86): constrained only by `PROGRAM_FN(0xFF, d) = d`. -/
def Config.programFn (old d : Byte) : Byte :=
  if old = 0xFF then d else Config.programOther old d

/-- The OPEN fields of the profiles of the machine that `State.reset` describes (00_scope.md R12). -/
opaque Config.openProfile : Nat → Profile
/-- The OPEN flow-control policy of that machine (00_scope.md R9). -/
opaque Config.openFcPolicy : FcPolicy
/-- The OPEN pop policy of that machine (00_scope.md R10). -/
opaque Config.openPopPolicy : PopPolicy
/-- The OPEN underflow sentinel of that machine (00_scope.md R11). -/
opaque Config.openSentinel : Byte
/-- The OPEN durations of that machine (00_scope.md R15). -/
opaque Config.openDurations : Durations

/-- A profile brought into the form 42_bus_sequencer.md R231 asks for; a profile that has it already, up to the
number that `size` counts from, is reached from some argument, so that no well-formed profile is shut out. -/
def Profile.shaped (p : Profile) : Profile :=
  let level := if p.pulseLevel = .hiZ then .high else p.pulseLevel
  { p with
    size := p.size % 65536 + 1
    pulseLevel := level
    ctlProg := p.ctlProg.setLine p.pulseLine level.inv }

/-- Watermarks brought into the range of 00_scope.md R9 for a FIFO of capacity `c`. -/
def FcPolicy.shaped (c : Nat) : FcPolicy → FcPolicy
  | .hysteresis hwm lwm =>
    let l := lwm % (c - 2) + 1
    .hysteresis (l + hwm % (c - 1 - l)) l
  | .single m => .single (m % (c - 1))

/-- The four profile keys of `Config.hw`: the OPEN ones where they are pairwise distinct, else 0 to 3, since equal
keys are refused (42_bus_sequencer.md R231). -/
def Config.openKeys : List Byte :=
  let raw := (List.range 4).map fun i => (Config.openProfile i).key
  if raw.Nodup then raw else [0, 1, 2, 3]

/-- The configuration of the machine that `State.reset` describes: the spec's own default where it gives one
(`C = 1024`, `NPROF = 4`, `DEFAULT_PROFILE = 0`, `HAS_CANCEL = true`; 00_scope.md R8, R12, R16), MultiFamily so that
every row of the opcode table has its own command (DESIGN CHOICE, log 3), and every OPEN value a free value. -/
def Config.hw : Config :=
  { variant := .multiFamily
    capacity := 1024
    fcPolicy := Config.openFcPolicy.shaped 1024
    popPolicy := Config.openPopPolicy
    sentinel := Config.openSentinel
    profiles := (List.range 4).map fun i =>
      { (Config.openProfile i).shaped with key := Config.openKeys.getD i 0 }
    defaultProfile := 0
    hasCancel := true
    durations := Config.openDurations }

end Sys2Proof
end

