-- ==== Sys2Proof/Machine/State.lean ====
section
/-! DEFINITION. The state of SEQ as plain data (spec/10_state.md R31 to R70), the reasons a step can stop, and the
state after reset (spec/70_reset_and_hazards.md R380). -/

namespace Sys2Proof.Machine

open Sys2Proof

/-- A byte memory: (address, byte) pairs in the canonical form of `Memory.wf`. -/
abbrev Memory := List Host.Cell

/-- The two address spaces of SEQ, and no others (20_memory.md R80). -/
inductive Space where
  | fifo | target
deriving DecidableEq, Repr

/-- What an address that a memory does not list reads as. FIFO: the reset and clear contents 0x00 (10_state.md R32,
40_fifo_flow.md R168). Target: the erased value 0xFF (20_memory.md R83; as initial contents a DESIGN CHOICE, log 11). -/
def unlisted : Space → Byte
  | .fifo => 0x00
  | .target => 0xFF

/-- The canonical form: addresses strictly rising, no entry equal to what an unlisted address reads as. -/
def Memory.wf (sp : Space) : Memory → Bool
  | [] => true
  | c :: m => c.2 != unlisted sp && m.all (fun d => decide (c.1 < d.1)) && Memory.wf sp m

/-- The state of `SEQ_MAIN` (10_state.md R51). -/
inductive Seq where
  | idle | frMark | frCode | dispatch
  | rdTop | rdAddr | rdEn | rdSample | rdEnd
  | bcTop | bcAddr | bcEn | bcSample | bcEnd
  | wrTop | wrHi | wrLo | wrDrive | wrPulse | wrEnd
  | ident | stKey | baud | abort | done
deriving DecidableEq, Repr

/-- An operation that can be aborted (10_state.md R47). -/
inductive Op where
  | read | write | blankCheck
deriving DecidableEq, Repr

/-- The direction of the data bus: `IN` (high-impedance, sampled) or `OUT` (driven with `dout`) (10_state.md R45). -/
inductive Dir where
  | input | output
deriving DecidableEq, Repr

/-- The names of the registers that 10_state.md R31 marks "unwritten" at reset. -/
inductive Reg where
  | cmd | cursor | cHi | cLo | wdata | rdata | dout | abortOp
deriving DecidableEq, Repr

/-- A record of the event history (10_state.md R66; 60_exceptions.md R340 to R345). -/
inductive Event where
  | overflow (b : Byte)
  | underflow
  | verificationFailure (a : Addr) (d : Byte)
  | operationAborted (op : Op) (a : Addr)
  | unknownCommand (c : Byte)
  | flagRaised
  | cancel
  | push (b : Byte)
  | pop (v : Byte)
  | readCycle (a : Addr) (d : Byte)
  | programCycle (a : Addr) (d : Byte)
deriving DecidableEq, Repr

/-- The code of an error record, a label of the model's event history only (60_exceptions.md R341 to R346). -/
def Event.code : Event → Option Nat
  | .overflow _ => some 1
  | .underflow => some 2
  | .verificationFailure _ _ => some 3
  | .operationAborted _ _ => some 4
  | .unknownCommand _ => some 5
  | .flagRaised => none
  | .cancel => none
  | .push _ => none
  | .pop _ => none
  | .readCycle _ _ => none
  | .programCycle _ _ => none

/-- One action of the host (30_encoding.md R135). `SEND` and `SENDX` are one `send` per byte. -/
inductive HostAction where
  | send (b : Byte)
  | cancel
  | await
deriving DecidableEq, Repr

/-- Who takes the next step. `RX` steps when the host's action is a byte (10_state.md R56); `TARGET` answers inside
the steps of `SEQ_MAIN` (00_scope.md R24; log 1). -/
inductive Agent where
  | host | main
deriving DecidableEq, Repr

/-- The receive FIFO (10_state.md R32, R33). -/
structure Fifo where
  slots : Memory
  head : Nat
  tail : Nat
deriving DecidableEq, Repr

/-- The command registers (10_state.md R38 to R42, R47). -/
structure Regs where
  cmd : Byte
  cursor : Addr
  cHi : Byte
  cLo : Byte
  wdata : Byte
  rdata : Byte
  abortOp : Op
deriving DecidableEq, Repr

/-- The device-bus registers (10_state.md R44 to R46). -/
structure Bus where
  addr : Addr
  dir : Dir
  dout : Byte
  ctl : Ctl
deriving DecidableEq, Repr

/-- The EPROM on the device bus (10_state.md R65): its cells, and whether a chip is fitted (42_bus_sequencer.md
R243). -/
structure Target where
  fitted : Bool
  cells : Memory
deriving DecidableEq, Repr

/-- The environment: what the host still has to do (30_encoding.md R135), who moves when (00_scope.md R24), and
whether `BUSY` has fallen since the last byte sent (R135 `AWAIT`). An empty `turns` is the eager-host schedule of
95_test_vectors.md section 0 (log 20). -/
structure Env where
  script : List HostAction
  turns : List Agent
  busyFell : Bool
deriving DecidableEq, Repr

/-- The state of the machine. -/
structure State where
  /-- The parameters of 00_scope.md; no step changes them (10_state.md R55; log 2). -/
  cfg : Config
  /-- The receive FIFO (R32, R33). -/
  fifo : Fifo
  /-- `fc_pause` (R35). -/
  fcPause : Bool
  /-- `active_flag` (R36). -/
  activeFlag : Bool
  /-- `seq` (R51). -/
  seq : Seq
  /-- A programming pulse is asserted: `SEQ_MAIN` is in the wait inside `WR_PULSE` (42_bus_sequencer.md R245,
  00_scope.md R25; log 15). -/
  pulsing : Bool
  /-- The command registers (R38 to R42, R47). -/
  regs : Regs
  /-- `active_prof` (R43). -/
  activeProf : Nat
  /-- The device bus (R44 to R46). -/
  bus : Bus
  /-- `busy` (R58). -/
  busy : Bool
  /-- `ovf_sticky` (R49). -/
  ovfSticky : Bool
  /-- `udf_sticky` (R50). -/
  udfSticky : Bool
  /-- `SEQ_MAIN` is in the wait `T_UDF` of an underflow, whose sentinel the pop in progress will return
  (40_fifo_flow.md R166, 00_scope.md R25; log 16). -/
  udfWait : Bool
  /-- The output stream (R70), oldest byte first. -/
  out : List Byte
  /-- The target (R65). -/
  target : Target
  /-- The event history (R66), oldest record first. -/
  ev : List Event
  /-- The registers that hold no value yet (R31, R68). A mark only: the register's field holds the value the reset
  names (log 4, 5). -/
  unwritten : List Reg
  /-- How many free values have been drawn (log 7). -/
  draws : Nat
  /-- The host's script and the schedule. -/
  env : Env
deriving DecidableEq, Repr

/-- Why the machine stops. None is behaviour of the hardware, and none is raised by a step from a state that meets
the invariants of Safety.lean. -/
inductive Fault where
  /-- `active_prof` is no index of `PROFILES` (10_state.md R43). Raised by every step that reads the active profile;
  safe (log 13). -/
  | noProfile
  /-- A bus cycle at an address the active profile does not have (20_memory.md R80, R82). Raised by the sample steps
  and by the end of the programming pulse; safe (log 12). -/
  | targetAddress (a : Addr)
  /-- A command is asked for a step of another command or of the dispatcher (`exec i s` where `s.seq` is no state of
  `i`; 10_state.md R51). Raised by every meaning, never through `step`, which runs the command that `seq` names;
  safe (log 14). -/
  | outOfSequence
deriving DecidableEq, Repr

/-- Why a configuration or an instruction is refused. -/
inductive Refusal where
  /-- `ConfigRefused(check)` (60_exceptions.md R348). Raised by `powerUp` before a run; safe. -/
  | configRefused (check : ConfigCheck)
  /-- The instruction has no meaning in the model yet. Raised by an arm of `exec`; safe. -/
  | notModelled (mnemonic : String)
deriving DecidableEq, Repr

/-- The disabled pattern of the default profile, `CTL` at reset (10_state.md R46). A configuration without that
profile is refused (`powerUp`); its pins are left high-impedance here (log 31). -/
def defaultIdle (c : Config) : Ctl :=
  match c.profiles[c.defaultProfile]? with
  | some p => p.ctlIdle
  | none => ⟨.hiZ, .hiZ, .hiZ⟩

/-- The state after reset (70_reset_and_hazards.md R380) of the machine with configuration `c`, with the drawn value
`a` of `ADDR` and the target `t`, whose contents are no reset value of SEQ (10_state.md R65). The command registers and
`dout` hold no value by the spec; they stand at zero with the mark `unwritten` (log 4). -/
def State.resetWith (c : Config) (a : Addr) (t : Target) : State :=
  { cfg := c
    fifo := { slots := [], head := 0, tail := c.capacity - 1 }
    fcPause := false
    activeFlag := false
    seq := .idle
    pulsing := false
    regs := { cmd := 0, cursor := 0, cHi := 0, cLo := 0, wdata := 0, rdata := 0, abortOp := .read }
    activeProf := c.defaultProfile
    bus := { addr := a, dir := .input, dout := 0, ctl := defaultIdle c }
    busy := false
    ovfSticky := false
    udfSticky := false
    udfWait := false
    out := []
    target := t
    ev := []
    unwritten := [.cmd, .cursor, .cHi, .cLo, .wdata, .rdata, .dout, .abortOp]
    draws := 0
    env := { script := [], turns := [], busyFell := false } }

/-- A fitted, erased target (95_test_vectors.md: "Every program below programs erased cells only"; log 11). -/
def Target.erased : Target := { fitted := true, cells := [] }

/-- The machine right after reset (70_reset_and_hazards.md R380, R383). -/
def State.reset : State := State.resetWith Config.hw Config.resetAddr Target.erased

end Sys2Proof.Machine
end

