-- ==== Sys2Proof/Machine/Flags.lean ====
section
/-! DEFINITION. The computed flags of SEQ as pure functions: the flow-control detector (spec/40_fifo_flow.md R169 to
R171), the framer's condition (R175), and the output pins (spec/10_state.md R35, R58 to R60). -/

namespace Sys2Proof.Machine

open Sys2Proof

/-- The next `fc_pause` from the policy, the occupancy and the present `fc_pause` (40_fifo_flow.md R170, R171). -/
def fcNext (p : FcPolicy) (occ : Nat) (pause : Bool) : Bool :=
  match p with
  | .single m => decide (m < occ)
  | .hysteresis hwm lwm => if hwm < occ then true else if occ < lwm then false else pause

/-- The framer's condition: at least a frame is present and the oldest byte is the marker (40_fifo_flow.md R175). -/
def frameSeen (occ : Nat) (oldest : Byte) : Bool :=
  decide (1 < occ) && decide (oldest = 0x24)

/-- Output pin `FC_N`, active low (10_state.md R35, R60). -/
def pinFcN (s : State) : Bool := !s.fcPause

/-- Output pin `BUSY` (10_state.md R58). -/
def pinBusy (s : State) : Bool := s.busy

/-- Output pin `READY`, the complement of `BUSY` (10_state.md R58). -/
def pinReady (s : State) : Bool := !s.busy

/-- Output pin `OVF_IND`, read between steps: a pulse begins and ends inside the receive step that makes it
(10_state.md R59, 40_fifo_flow.md R162; log 23), so its level here is 0. -/
def pinOvfInd (_ : State) : Bool := false

/-- Output pin `UDF_IND`: 1 while the wait `T_UDF` of an underflow lasts (10_state.md R59, 40_fifo_flow.md R166;
log 23). -/
def pinUdfInd (s : State) : Bool := s.udfWait

/-- What SEQ drives onto the data bus `D`, if anything (10_state.md R45). -/
def pinData (s : State) : Option Byte :=
  match s.bus.dir with
  | .input => none
  | .output => some s.bus.dout

/-- The dispatcher's state: Active unless `seq = IDLE` (10_state.md R37). -/
def isActive (s : State) : Bool := decide (s.seq ≠ .idle)

end Sys2Proof.Machine
end

