-- ==== Sys2Proof/Machine/Operands.lean ====
section
/-! DEFINITION. The operand forms and the texts of SEQ, as pure functions on bytes: hexadecimal characters in
(spec/30_encoding.md R126, R127), hexadecimal digits and status strings out (spec/00_scope.md R22, spec/30_encoding.md
R130, R131), and the profile key (R128). -/

namespace Sys2Proof.Machine

open Sys2Proof

/-- `hexval(c)` of a hexadecimal character, none of any other byte (30_encoding.md R126). -/
def hexval (c : Byte) : Option Nibble :=
  if 0x30 ≤ c.toNat ∧ c.toNat ≤ 0x39 then some (BitVec.ofNat 4 (c.toNat - 0x30))
  else if 0x41 ≤ c.toNat ∧ c.toNat ≤ 0x46 then some (BitVec.ofNat 4 (c.toNat - 0x41 + 10))
  else if 0x61 ≤ c.toNat ∧ c.toNat ≤ 0x66 then some (BitVec.ofNat 4 (c.toNat - 0x61 + 10))
  else none

/-- The nibble of a payload character when `n` free values have been drawn: `hexval(c)`, or the next draw where the
character is no hexadecimal digit (30_encoding.md R126 `HEXVAL_BAD`; log 7). -/
def nibbleOf (c : Byte) (n : Nat) : Nibble :=
  (hexval c).getD (Config.freeNibble n)

/-- The number of free values drawn after that. -/
def drawsAfter (c : Byte) (n : Nat) : Nat :=
  if (hexval c).isSome then n else n + 1

/-- `{hi, lo}`: the first character is the high nibble (30_encoding.md R127). -/
def joinNibbles (hi lo : Nibble) : Byte :=
  BitVec.ofNat 8 (hi.toNat * 16 + lo.toNat)

/-- `hex1(n)`: `'0'..'9'`, `'A'..'F'` (00_scope.md R22). -/
def hex1 (n : Nibble) : Byte :=
  if n.toNat ≤ 9 then BitVec.ofNat 8 (0x30 + n.toNat) else BitVec.ofNat 8 (0x41 + (n.toNat - 10))

/-- `hex2(b) = hex1(b[7:4]) ++ hex1(b[3:0])` (00_scope.md R22). -/
def hex2 (b : Byte) : List Byte :=
  [hex1 (b.extractLsb' 4 4), hex1 (b.extractLsb' 0 4)]

/-- `hex4(a) = hex2(a[15:8]) ++ hex2(a[7:0])` (00_scope.md R22). -/
def hex4 (a : Addr) : List Byte :=
  hex2 (a.extractLsb' 8 8) ++ hex2 (a.extractLsb' 0 8)

/-- `"OK"` (30_encoding.md R131). -/
def textOk : List Byte := [0x4F, 0x4B]

/-- `"Already init"` (30_encoding.md R131). -/
def textInit : List Byte := [0x41, 0x6C, 0x72, 0x65, 0x61, 0x64, 0x79, 0x20, 0x69, 0x6E, 0x69, 0x74]

/-- `name(op)` (30_encoding.md R131). -/
def opName : Op → List Byte
  | .read => [0x52, 0x65, 0x61, 0x64]
  | .write => [0x57, 0x72, 0x69, 0x74, 0x65]
  | .blankCheck => [0x42, 0x6C, 0x61, 0x6E, 0x6B, 0x43, 0x68, 0x65, 0x63, 0x6B]

/-- `S_ABORT(op) = name(op) ++ " aborted\n"` (30_encoding.md R131). -/
def textAborted (op : Op) : List Byte :=
  opName op ++ [0x20, 0x61, 0x62, 0x6F, 0x72, 0x74, 0x65, 0x64, 0x0A]

/-- `"Erase check fail at address 0x"` (30_encoding.md R131, bytes as in 95_test_vectors.md S7). -/
def textFailHead : List Byte :=
  [0x45, 0x72, 0x61, 0x73, 0x65, 0x20, 0x63, 0x68, 0x65, 0x63, 0x6B, 0x20, 0x66, 0x61, 0x69, 0x6C, 0x20,
   0x61, 0x74, 0x20, 0x61, 0x64, 0x64, 0x72, 0x65, 0x73, 0x73, 0x20, 0x30, 0x78]

/-- `S_BCFAIL(a, d)` (30_encoding.md R131). -/
def textFail (a : Addr) (d : Byte) : List Byte :=
  textFailHead ++ hex4 a ++ [0x20, 0x3D, 0x20, 0x30, 0x78] ++ hex2 d ++ [0x0A]

/-- What Read emits for one address `a` with byte `d`, of a profile with `size` addresses: the row's address before
every sixteenth value, the value, then a newline after the sixteenth and after the last value, else a space
(43_commands.md R272, 30_encoding.md R130). -/
def dumpItem (size : Nat) (a : Addr) (d : Byte) : List Byte :=
  (if a.toNat % 16 = 0 then hex4 a ++ [0x3A, 0x20] else [])
    ++ hex2 d
    ++ (if a.toNat % 16 = 15 ∨ a.toNat + 1 = size then [0x0A] else [0x20])

/-- The index of the profile that a key byte selects (30_encoding.md R128, 43_commands.md R311). -/
def keyIndex (ps : List Profile) (k : Byte) : Option Nat :=
  ps.findIdx? fun p => decide (p.key = k)

end Sys2Proof.Machine
end

