-- ==== Sys2Proof/Machine/Ops.lean ====
section
/-! DEFINITION. The named operations that every command is built from: memory, registers, the event history and the
output stream, the FIFO primitives (spec/40_fifo_flow.md), the device-bus pieces (spec/42_bus_sequencer.md), and the
error record, the error exit and the return to Idle (spec/60_exceptions.md, spec/43_commands.md R320,
spec/41_dispatcher.md R206). -/

namespace Sys2Proof.Machine

open Sys2Proof

/-- The result type of every step. -/
abbrev Result := Host.Outcome State Fault Refusal

/-! ## Memory -/

/-- The byte at an address. -/
def memGet (sp : Space) : Memory → Nat → Byte
  | [], _ => unlisted sp
  | c :: m, a => if a = c.1 then c.2 else memGet sp m a

/-- The memory with the byte at an address replaced; it keeps the canonical form. -/
def memSet (sp : Space) : Memory → Nat → Byte → Memory
  | [], a, b => if b = unlisted sp then [] else [(a, b)]
  | c :: m, a, b =>
    if a < c.1 then (if b = unlisted sp then c :: m else (a, b) :: c :: m)
    else if a = c.1 then (if b = unlisted sp then m else (a, b) :: m)
    else c :: memSet sp m a b

/-! ## Registers, output, events -/

/-- `goto q` (00_scope.md R21). -/
def goto (q : Seq) (s : State) : State := { s with seq := q }

/-- `emit(bs)`: append to the output stream (00_scope.md R21, 10_state.md R70). -/
def emit (bs : List Byte) (s : State) : State := { s with out := s.out ++ bs }

/-- `raise E(info)` and every other record: append to the event history and change nothing else
(60_exceptions.md R340). This is all that detecting an error does: SEQ has no trap (R352). -/
def raiseEvent (e : Event) (s : State) : State := { s with ev := s.ev ++ [e] }

/-- A register now holds a value (10_state.md R68; log 5). -/
def markWritten (r : Reg) (s : State) : State := { s with unwritten := s.unwritten.filter (fun x => x != r) }

/-- `cmd <- c` (10_state.md R38). -/
def setCmd (c : Byte) (s : State) : State := markWritten .cmd { s with regs := { s.regs with cmd := c } }

/-- `cursor <- a` (10_state.md R39). -/
def setCursor (a : Addr) (s : State) : State := markWritten .cursor { s with regs := { s.regs with cursor := a } }

/-- `c_hi <- c` (10_state.md R40). -/
def setCHi (c : Byte) (s : State) : State := markWritten .cHi { s with regs := { s.regs with cHi := c } }

/-- `c_lo <- c` (10_state.md R40). -/
def setCLo (c : Byte) (s : State) : State := markWritten .cLo { s with regs := { s.regs with cLo := c } }

/-- `wdata <- d` (10_state.md R41). -/
def setWdata (d : Byte) (s : State) : State := markWritten .wdata { s with regs := { s.regs with wdata := d } }

/-- `rdata <- d` (10_state.md R42). -/
def setRdata (d : Byte) (s : State) : State := markWritten .rdata { s with regs := { s.regs with rdata := d } }

/-- `abort_op <- op` (10_state.md R47). -/
def setAbortOp (op : Op) (s : State) : State :=
  markWritten .abortOp { s with regs := { s.regs with abortOp := op } }

/-- `ADDR <- a` (10_state.md R44). -/
def setAddr (a : Addr) (s : State) : State := { s with bus := { s.bus with addr := a } }

/-- `dbus_dir <- d` (10_state.md R45). -/
def setDir (d : Dir) (s : State) : State := { s with bus := { s.bus with dir := d } }

/-- `dout <- b` (10_state.md R45). -/
def setDout (b : Byte) (s : State) : State := markWritten .dout { s with bus := { s.bus with dout := b } }

/-- `CTL <- c` (10_state.md R46). -/
def setCtl (c : Ctl) (s : State) : State := { s with bus := { s.bus with ctl := c } }

/-! ## The active profile -/

/-- `P = PROFILES[active_prof]` (10_state.md R43, 42_bus_sequencer.md R232). -/
def activeProfile (s : State) : Option Profile := s.cfg.profiles[s.activeProf]?

/-- A step that reads `P`: it stops where `active_prof` is no index of the table (10_state.md R43; log 13). -/
def withProfile (s : State) (k : Profile → Result) : Result :=
  match activeProfile s with
  | some p => k p
  | none => .fault .noProfile

/-- A bus cycle at `ADDR`: it stops where the profile has no such address (20_memory.md R80, R82; log 12). -/
def atTarget (p : Profile) (s : State) (t : State) : Result :=
  if s.bus.addr.toNat < p.size then .next t else .fault (.targetAddress s.bus.addr)

/-! ## The FIFO -/

/-- `occ = (tail - head + 1) mod C`, with the mathematical remainder (10_state.md R34, 00_scope.md R20). -/
def occ (s : State) : Nat :=
  (((s.fifo.tail : Int) - (s.fifo.head : Int) + 1) % (s.cfg.capacity : Int)).toNat

/-- `isEmpty()` (40_fifo_flow.md R163). -/
def isEmpty (s : State) : Bool := decide (occ s = 0)

/-- `fifo[i]` (10_state.md R32). -/
def slot (s : State) (i : Nat) : Byte := memGet .fifo s.fifo.slots i

/-- `fifo[head]`, the oldest byte where there is one. -/
def oldest (s : State) : Byte := slot s s.fifo.head

/-- `fc_update()` (40_fifo_flow.md R169). -/
def fcUpdate (s : State) : State := { s with fcPause := fcNext s.cfg.fcPolicy (occ s) s.fcPause }

/-- `push_accept(b)` (40_fifo_flow.md R161), recorded as `Push(b)` (60_exceptions.md R340). -/
def pushAccept (b : Byte) (s : State) : State :=
  let t := (s.fifo.tail + 1) % s.cfg.capacity
  raiseEvent (.push b) { s with fifo := { s.fifo with tail := t, slots := memSet .fifo s.fifo.slots t b } }

/-- `push_reject(b)`: the byte is dropped (40_fifo_flow.md R162, 60_exceptions.md R341). -/
def pushReject (b : Byte) (s : State) : State :=
  { raiseEvent (.overflow b) s with ovfSticky := true }

/-- `framer()`: it only ever sets `active_flag`, and records `FlagRaised` on a change from 0 to 1
(40_fifo_flow.md R175, R176; 60_exceptions.md R340). -/
def framer (s : State) : State :=
  if frameSeen (occ s) (oldest s) then
    (if s.activeFlag then s else { raiseEvent .flagRaised s with activeFlag := true })
  else s

/-- `rx(b)`, one atomic step of `RX`: push, flow update, framer (40_fifo_flow.md R160). -/
def rx (b : Byte) (s : State) : State :=
  framer (fcUpdate (if occ s = s.cfg.capacity - 1 then pushReject b s else pushAccept b s))

/-- The cancel step (60_exceptions.md R347). -/
def cancel (s : State) : State := { raiseEvent .cancel s with activeFlag := false }

/-- `pop()` with data (40_fifo_flow.md R164): the state after it, the value being `oldest s`. The slot keeps its byte
(R167). -/
def popData (s : State) : State :=
  fcUpdate (raiseEvent (.pop (oldest s))
    { s with fifo := { s.fifo with head := (s.fifo.head + 1) % s.cfg.capacity } })

/-- `pop()` on an empty FIFO under `FailFast`, up to `wait T_UDF` (40_fifo_flow.md R166, 60_exceptions.md R342;
log 16). -/
def popUnderflow (s : State) : State := { raiseEvent .underflow s with udfSticky := true, udfWait := true }

/-- The end of `wait T_UDF`: the pop returns `UNDERFLOW_SENTINEL`, whatever has arrived since (40_fifo_flow.md R166). -/
def popResume (s : State) : State := { s with udfWait := false }

/-- A step that begins with `v <- pop()`: with data (R164), held (R165), or, in two steps around `wait T_UDF`, with the
sentinel (R166). A held step changes nothing (00_scope.md R21 `hold`; log 17). -/
def withPop (s : State) (k : Byte → State → Result) : Result :=
  if s.udfWait then k s.cfg.sentinel (popResume s)
  else if 0 < occ s then k (oldest s) (popData s)
  else
    match s.cfg.popPolicy with
    | .block => .next s
    | .failFast => .next (popUnderflow s)

/-- `clear()` (40_fifo_flow.md R168). -/
def clear (s : State) : State :=
  fcUpdate { s with fifo := { slots := [], head := 0, tail := s.cfg.capacity - 1 } }

/-! ## The device bus -/

/-- `bus_safe()` (42_bus_sequencer.md R248). -/
def busSafe (p : Profile) (s : State) : State := setDir .input (setCtl p.ctlIdle s)

/-- Address step of a read cycle (42_bus_sequencer.md R240). -/
def driveAddress (q : Seq) (s : State) : State := goto q (setDir .input (setAddr s.regs.cursor s))

/-- Enable step of a read cycle (42_bus_sequencer.md R241). -/
def enableRead (pat : Ctl) (q : Seq) (s : State) : State := goto q (setCtl pat s)

/-- The target drives a defined value onto `D`: a chip is fitted, `dbus_dir = IN` and `CTL = pat`
(42_bus_sequencer.md R243; log 8). -/
def targetDrives (pat : Ctl) (s : State) : Bool :=
  s.target.fitted && decide (s.bus.dir = .input) && decide (s.bus.ctl = pat)

/-- `T[a]` (10_state.md R65). -/
def cell (s : State) (a : Addr) : Byte := memGet .target s.target.cells a.toNat

/-- `MemRead(ADDR, 1)`: `T[ADDR]`, or a draw where the target drives nothing (42_bus_sequencer.md R242, R243;
20_memory.md R86 a). -/
def busByte (pat : Ctl) (s : State) : Byte :=
  if targetDrives pat s then cell s s.bus.addr else Config.freeByte s.draws

/-- Sample step of a read cycle, up to what the command does with the byte (42_bus_sequencer.md R242). -/
def sample (pat : Ctl) (s : State) : State :=
  let d := busByte pat s
  raiseEvent (.readCycle s.bus.addr d)
    (setRdata d { s with draws := if targetDrives pat s then s.draws else s.draws + 1 })

/-- Drive step of a programming cycle (42_bus_sequencer.md R244). The high nibble is drawn before the low one. -/
def driveData (p : Profile) (s : State) : State :=
  let n := drawsAfter s.regs.cHi s.draws
  let d := joinNibbles (nibbleOf s.regs.cHi s.draws) (nibbleOf s.regs.cLo n)
  let s1 := setWdata d { s with draws := drawsAfter s.regs.cLo n }
  goto .wrPulse (setCtl p.ctlProg (setDir .output (setDout d (setAddr s.regs.cursor s1))))

/-- The first half of the pulse step, up to `wait P.t_pulse` (42_bus_sequencer.md R245; log 15). -/
def pulseAssert (p : Profile) (s : State) : State :=
  { setCtl (s.bus.ctl.setLine p.pulseLine p.pulseLevel) s with pulsing := true }

/-- `T[ADDR] <- PROGRAM_FN(T[ADDR], dout)` (20_memory.md R86 b); without a chip there is no cell to change (log 30). -/
def program (s : State) : State :=
  if s.target.fitted then
    { s with target := { s.target with
        cells := memSet .target s.target.cells s.bus.addr.toNat (Config.programFn (cell s s.bus.addr) s.bus.dout) } }
  else s

/-- The second half of the pulse step, up to `cursor_next()` (42_bus_sequencer.md R245). -/
def pulseDeassert (p : Profile) (s : State) : State :=
  raiseEvent (.programCycle s.bus.addr s.bus.dout)
    (program { setCtl (s.bus.ctl.setLine p.pulseLine p.pulseLevel.inv) s with pulsing := false })

/-! ## The address loop -/

/-- Loop-top check: `active_flag = 0` leads to ABORT (43_commands.md R271, R281, R290). -/
def loopTop (op : Op) (q : Seq) (s : State) : State :=
  if s.activeFlag then goto q s else goto .abort (setAbortOp op s)

/-- `n <- cursor + 1; if n = P.size: goto last else: cursor <- n[15:0]; goto top`, with the 17-bit `n` (10_state.md
R39; 43_commands.md R272, R282, R293). -/
def cursorNext (p : Profile) (top last : Seq) (s : State) : State :=
  let n := s.regs.cursor.toNat + 1
  if n = p.size then goto last s else goto top (setCursor (BitVec.ofNat 16 n) s)

/-- Entry of an iterating command from DISPATCH: `cursor <- 0; goto top` (41_dispatcher.md R204). -/
def enterLoop (top : Seq) (s : State) : State := goto top (setCursor 0 s)

/-! ## The error exit and the return -/

/-- DISPATCH of a reserved code: the record `UnknownCommand(cmd)` and straight to DONE (41_dispatcher.md R204, R205;
60_exceptions.md R345). -/
def unknownCommand (c : Byte) (s : State) : State := goto .done (raiseEvent (.unknownCommand c) s)

/-- Step ABORT, the one error exit: safe state, record, message, then DONE (43_commands.md R320,
60_exceptions.md R344). -/
def abortStep (s : State) : Result :=
  withProfile s fun p =>
    .next (goto .done (emit (textAborted s.regs.abortOp)
      (raiseEvent (.operationAborted s.regs.abortOp s.regs.cursor) (busSafe p s))))

/-- Step DONE, the one return: clear the FIFO and `active_flag`, drop `busy`, go to IDLE (41_dispatcher.md R206,
60_exceptions.md R353). The host's `AWAIT` sees `BUSY` fall (30_encoding.md R135; log 19). -/
def doneStep (s : State) : State :=
  goto .idle { clear s with
    activeFlag := false
    busy := false
    env := { s.env with busyFell := s.env.busyFell || s.busy } }

end Sys2Proof.Machine
end

