-- ==== Sys2Proof/Machine/Immediate.lean ====
section
/-! DEFINITION. The commands without an address loop: Identify, SetDeviceType, InitBaud and the reserved codes
(spec/43_commands.md R305 to R315, spec/41_dispatcher.md R205). None reads `active_flag` (R207) or runs a bus cycle.
`exec… s` is the one atomic step of the command that `s.seq` names (log 14). -/

namespace Sys2Proof.Machine

open Sys2Proof

/-- IDENTIFY (43_commands.md R305). -/
def execIdentify (s : State) : Result :=
  match s.seq with
  | .dispatch => .next (goto .ident s)
  | .ident => withProfile s fun p => .next (goto .done (emit p.ident s))
  | .done => .next (doneStep s)
  | _ => .fault .outOfSequence

/-- Profile selection by the key byte `k` (43_commands.md R311): a known key selects its profile, drives that
profile's disabled pattern and reports "OK"; an unknown key changes nothing. -/
def selectProfile (k : Byte) (s : State) : State :=
  match keyIndex s.cfg.profiles k with
  | none => s
  | some i =>
    match s.cfg.profiles[i]? with
    | none => s
    | some p => emit textOk (setCtl p.ctlIdle { s with activeProf := i })

/-- SETDEVICETYPE (43_commands.md R310, R311). In SingleFamily its code is reserved (41_dispatcher.md R204). -/
def execSetDeviceType (s : State) : Result :=
  match s.seq with
  | .dispatch =>
    match s.cfg.variant with
    | .multiFamily => .next (goto .stKey s)
    | .singleFamily => .next (unknownCommand 0x35 s)
  | .stKey => withPop s fun k t => .next (goto .done (selectProfile k t))
  | .done => .next (doneStep s)
  | _ => .fault .outOfSequence

/-- INITBAUD (43_commands.md R315). -/
def execInitBaud (s : State) : Result :=
  match s.seq with
  | .dispatch => .next (goto .baud s)
  | .baud => .next (goto .done (emit textInit s))
  | .done => .next (doneStep s)
  | _ => .fault .outOfSequence

/-- RESERVED (41_dispatcher.md R204, R205). -/
def execReserved (c : Byte) (s : State) : Result :=
  match s.seq with
  | .dispatch => .next (unknownCommand c s)
  | .done => .next (doneStep s)
  | _ => .fault .outOfSequence

end Sys2Proof.Machine
end

