-- ==== Sys2Proof/Machine/Iterating.lean ====
section
/-! DEFINITION. The three commands that iterate over the target: Read, BlankCheck and Write (spec/43_commands.md R270
to R296). `exec… s` is the ONE atomic step of the command that `s.seq` names (spec/10_state.md R51; log 14): its
DISPATCH step (spec/41_dispatcher.md R204), its own states, ABORT and DONE. -/

namespace Sys2Proof.Machine

open Sys2Proof

/-- Step RD_SAMPLE (42_bus_sequencer.md R242, 43_commands.md R272). -/
def readSample (p : Profile) (s : State) : Result :=
  let s1 := sample p.ctlRead s
  atTarget p s (cursorNext p .rdTop .rdEnd (emit (dumpItem p.size s.regs.cursor s1.regs.rdata) s1))

/-- READ (43_commands.md R270 to R274). -/
def execRead (s : State) : Result :=
  match s.seq with
  | .dispatch => .next (enterLoop .rdTop s)
  | .rdTop => .next (loopTop .read .rdAddr s)
  | .rdAddr => .next (driveAddress .rdEn s)
  | .rdEn => withProfile s fun p => .next (enableRead p.ctlRead .rdSample s)
  | .rdSample => withProfile s fun p => readSample p s
  | .rdEnd => withProfile s fun p => .next (goto .done (busSafe p s))
  | .abort => abortStep s
  | .done => .next (doneStep s)
  | _ => .fault .outOfSequence

/-- `blank_fail()`: record, message, safe state, DONE, with no further scanning (43_commands.md R283). -/
def blankFail (p : Profile) (s : State) : State :=
  goto .done (busSafe p (emit (textFail s.regs.cursor s.regs.rdata)
    (raiseEvent (.verificationFailure s.regs.cursor s.regs.rdata) s)))

/-- Step BC_SAMPLE (42_bus_sequencer.md R242, 43_commands.md R282). -/
def blankSample (p : Profile) (s : State) : Result :=
  let s1 := sample p.ctlBlank s
  atTarget p s (if s1.regs.rdata = 0xFF then cursorNext p .bcTop .bcEnd s1 else blankFail p s1)

/-- BLANKCHECK (43_commands.md R280 to R284). -/
def execBlankCheck (s : State) : Result :=
  match s.seq with
  | .dispatch => .next (enterLoop .bcTop s)
  | .bcTop => .next (loopTop .blankCheck .bcAddr s)
  | .bcAddr => .next (driveAddress .bcEn s)
  | .bcEn => withProfile s fun p => .next (enableRead p.ctlBlank .bcSample s)
  | .bcSample => withProfile s fun p => blankSample p s
  | .bcEnd => withProfile s fun p => .next (goto .done (emit textOk (busSafe p s)))
  | .abort => abortStep s
  | .done => .next (doneStep s)
  | _ => .fault .outOfSequence

/-- Step WR_PULSE, in two halves around `wait P.t_pulse`; what other agents do between them cannot touch the bus
(42_bus_sequencer.md R245, 43_commands.md R293; log 15). -/
def writePulse (p : Profile) (s : State) : Result :=
  if s.pulsing then atTarget p s (cursorNext p .wrTop .wrEnd (pulseDeassert p s))
  else .next (pulseAssert p s)

/-- WRITE (43_commands.md R290 to R295). -/
def execWrite (s : State) : Result :=
  match s.seq with
  | .dispatch => .next (enterLoop .wrTop s)
  | .wrTop => .next (loopTop .write .wrHi s)
  | .wrHi => withPop s fun v t => .next (goto .wrLo (setCHi v t))
  | .wrLo => withPop s fun v t => .next (goto .wrDrive (setCLo v t))
  | .wrDrive => withProfile s fun p => .next (driveData p s)
  | .wrPulse => withProfile s fun p => writePulse p s
  | .wrEnd => withProfile s fun p => .next (goto .done (emit textOk (busSafe p s)))
  | .abort => abortStep s
  | .done => .next (doneStep s)
  | _ => .fault .outOfSequence

end Sys2Proof.Machine
end

