-- ==== Sys2Proof/Syntax.lean ====
section
/-! DEFINITION. The instruction set of SEQ as syntax: one constructor per row of spec/opcode_table.json
(spec/30_encoding.md R120, R121, R123). -/

namespace Sys2Proof

/-- A command frame, decoded. A frame carries no operand (20_memory.md R97: a command is fixed when its code byte is
popped); Write's payload and SetDeviceType's key byte are popped later by the command's own steps
(43_commands.md R291, R292, R310). -/
inductive Instr where
  /-- `'$','1'`: hex dump of the target (43_commands.md R270). -/
  | read
  /-- `'$','2'`: program the target from a hex payload (43_commands.md R290). -/
  | write
  /-- `'$','3'`: check that the target is erased (43_commands.md R280). -/
  | blankCheck
  /-- `'$','4'`: emit the active profile's identity (43_commands.md R305). -/
  | identify
  /-- `'$','5'`: select the active profile, in MultiFamily (43_commands.md R310). -/
  | setDeviceType
  /-- `'$','U'`: acknowledge (43_commands.md R315). -/
  | initBaud
  /-- `'$'` and any other code byte: a no-op (41_dispatcher.md R205). -/
  | reserved (code : Byte)
deriving DecidableEq, Repr

end Sys2Proof
end

