-- ==== Sys2Proof/Machine/Dispatch.lean ====
section
/-! DEFINITION. One arm per constructor of Instr: the step of that command that `s.seq` names. -/

namespace Sys2Proof.Machine

open Sys2Proof

def exec (i : Instr) (s : State) : Host.Outcome State Fault Refusal :=
  match i with
  | .read => Sys2Proof.Machine.execRead s
  | .write => Sys2Proof.Machine.execWrite s
  | .blankCheck => Sys2Proof.Machine.execBlankCheck s
  | .identify => Sys2Proof.Machine.execIdentify s
  | .setDeviceType => Sys2Proof.Machine.execSetDeviceType s
  | .initBaud => Sys2Proof.Machine.execInitBaud s
  | .reserved code => Sys2Proof.Machine.execReserved code s

end Sys2Proof.Machine
end

