-- ==== Sys2Proof/WellFormed.lean ====
section
/-! DEFINITION. Well-formed instructions: a reserved frame's code byte is none of the six command codes
(spec/30_encoding.md R121, R123; spec/opcode_table.json, the RESERVED row's priority). -/

namespace Sys2Proof

/-- The command codes of 30_encoding.md R121: `'1'`, `'2'`, `'3'`, `'4'`, `'5'`, `'U'`. -/
def commandCodes : List Byte := [0x31, 0x32, 0x33, 0x34, 0x35, 0x55]

/-- The one check: a reserved code byte is none of the six command codes. -/
def Instr.wellFormed : Instr → Bool
  | .read => true
  | .write => true
  | .blankCheck => true
  | .identify => true
  | .setDeviceType => true
  | .initBaud => true
  | .reserved c => !commandCodes.contains c

end Sys2Proof
end

