-- ==== Sys2Proof/Decode.lean ====
section
/-! DEFINITION. The decoder, total on any bytes, and the encoder (spec/30_encoding.md R120 to R123,
spec/opcode_table.json). -/

namespace Sys2Proof

/-- The frame marker `'$'` (30_encoding.md R120). -/
def frameMarker : Byte := 0x24

/-- Why bytes are no frame. -/
inductive DecodeError where
  /-- Fewer than the two bytes of a frame (30_encoding.md R120). -/
  | tooShort
  /-- The first byte is not the marker (30_encoding.md R124). -/
  | noMarker (b : Byte)
deriving DecidableEq, Repr

/-- The command a code byte names: an exact comparison of the whole byte, no case folding (30_encoding.md R121,
R122); every other byte is reserved (R123). Whether `'5'` is reserved depends on `VARIANT` and is settled by the
DISPATCH step of SetDeviceType (41_dispatcher.md R204), as the table's row has it. -/
def decodeCode (c : Byte) : Instr :=
  if c = 0x31 then .read
  else if c = 0x32 then .write
  else if c = 0x33 then .blankCheck
  else if c = 0x34 then .identify
  else if c = 0x35 then .setDeviceType
  else if c = 0x55 then .initBaud
  else .reserved c

/-- A frame at the front of a byte stream, and the bytes after it: first byte the marker, second byte the code
(30_encoding.md R120; 20_memory.md R84 b). -/
def decode : List Byte → Except DecodeError (Instr × List Byte)
  | m :: c :: rest => if m = frameMarker then .ok (decodeCode c, rest) else .error (.noMarker m)
  | _ => .error .tooShort

/-- The code byte of a command (30_encoding.md R121). -/
def Instr.code : Instr → Byte
  | .read => 0x31
  | .write => 0x32
  | .blankCheck => 0x33
  | .identify => 0x34
  | .setDeviceType => 0x35
  | .initBaud => 0x55
  | .reserved c => c

/-- The two bytes of a command's frame, in the order they are received (30_encoding.md R120). -/
def encode (i : Instr) : List Byte := [frameMarker, i.code]

/-- The frame word `F = {first byte, second byte}` of 30_encoding.md R120: `F[15:8]` is the marker. -/
def encodeWord (i : Instr) : Nat := frameMarker.toNat * 256 + i.code.toNat

/-- The bytes of a table word in the order they are received. The table's one format, FRAME16, is ONE 16-bit word
whose more significant byte is received first (30_encoding.md R120: `F = {first byte, second byte}`). -/
def tableBytes (nbits w : Nat) : Option (List Byte) :=
  if nbits = 16 then some [BitVec.ofNat 8 (w / 256), BitVec.ofNat 8 w] else none

/-- The instruction the decoder reads from an instruction whose bits are `w`, numbered as spec/opcode_table.json
numbers them. -/
def decodeTableWord (nbits w : Nat) : Option Instr :=
  match tableBytes nbits w with
  | none => none
  | some bs =>
    match decode bs with
    | .ok (i, _) => some i
    | .error _ => none

end Sys2Proof
end

