-- ==== Sys2Proof/Machine/Sequencer.lean ====
section
/-! DEFINITION. Who steps and what they run: the dispatcher's own steps IDLE, FR_MARK and FR_CODE
(spec/41_dispatcher.md R201 to R203), the command in progress, the host's steps (spec/30_encoding.md R135), the
schedule (spec/00_scope.md R24), power-up (spec/70_reset_and_hazards.md R380 to R383), and the placing of a frame. -/

namespace Sys2Proof.Machine

open Sys2Proof

/-- Steps IDLE (held while `active_flag = 0`, 41_dispatcher.md R201), FR_MARK (R202: the popped marker is discarded)
and FR_CODE (R203). Every other state is a step of a command. -/
def dispatcherStep (s : State) : Result :=
  match s.seq with
  | .idle => if s.activeFlag then .next (goto .frMark { s with busy := true }) else .next s
  | .frMark => withPop s fun _ t => .next (goto .frCode t)
  | .frCode => withPop s fun v t => .next (goto .dispatch (setCmd v t))
  | _ => .fault .outOfSequence

/-- The command that `abort_op` names (10_state.md R47). -/
def opInstr : Op → Instr
  | .read => .read
  | .write => .write
  | .blankCheck => .blankCheck

/-- The command whose step `SEQ_MAIN` takes next, none in the dispatcher's own states. DISPATCH decodes `cmd`
(41_dispatcher.md R204); after it `seq` alone says which command runs (10_state.md R51, 20_memory.md R97); ABORT is the
exit of the operation in `abort_op` (R47); DONE is the same step for every command (41_dispatcher.md R206). -/
def running (s : State) : Option Instr :=
  match s.seq with
  | .idle | .frMark | .frCode => none
  | .dispatch | .done => some (decodeCode s.regs.cmd)
  | .rdTop | .rdAddr | .rdEn | .rdSample | .rdEnd => some .read
  | .bcTop | .bcAddr | .bcEn | .bcSample | .bcEnd => some .blankCheck
  | .wrTop | .wrHi | .wrLo | .wrDrive | .wrPulse | .wrEnd => some .write
  | .ident => some .identify
  | .stKey => some .setDeviceType
  | .baud => some .initBaud
  | .abort => some (opInstr s.regs.abortOp)

/-- The host has an enabled step: a byte to send, a cancel where the input exists (00_scope.md R16; log 18), or an
`AWAIT` that passes (30_encoding.md R135). -/
def hostEnabled (s : State) : Bool :=
  match s.env.script with
  | [] => false
  | .send _ :: _ => true
  | .cancel :: _ => s.cfg.hasCancel
  | .await :: _ => s.env.busyFell

/-- One step of the host's script; a host that is not enabled changes nothing (log 17). -/
def hostStep (s : State) : State :=
  if hostEnabled s then
    match s.env.script with
    | [] => s
    | .send b :: rest => rx b { s with env := { s.env with script := rest, busyFell := false } }
    | .cancel :: rest => cancel { s with env := { s.env with script := rest } }
    | .await :: rest => { s with env := { s.env with script := rest } }
  else s

/-- Who moves next: whom the schedule names; with no schedule left, the host while it is enabled, else `SEQ_MAIN`
(the eager-host schedule of 95_test_vectors.md section 0; log 20). -/
def nextAgent (s : State) : Agent :=
  match s.env.turns with
  | a :: _ => a
  | [] => if hostEnabled s then .host else .main

/-- The state with its next turn taken off the schedule. -/
def takeTurn (s : State) : State := { s with env := { s.env with turns := s.env.turns.tail } }

/-- Power-up (70_reset_and_hazards.md R380 to R383): a configuration that fails a check is refused
(60_exceptions.md R348, 93_implementation_defined.md U16); any other gives the reset state, with the drawn `ADDR` and
the target that is on the bus. -/
def powerUp (c : Config) (a : Addr) (t : Target) : Result :=
  match c.failed with
  | some k => .refused (.configRefused k)
  | none => .next (State.resetWith c a t)

/-- The state in which the frame of code byte `c` has just been drained and `SEQ_MAIN` moves next, at DISPATCH: what
receiving the frame, IDLE, FR_MARK and FR_CODE leave (41_dispatcher.md R201 to R203; log 24). -/
def placeFrame (c : Byte) (s : State) : State :=
  goto .dispatch (setCmd c { s with
    activeFlag := true
    busy := true
    env := { s.env with turns := .main :: s.env.turns } })

end Sys2Proof.Machine
end

