-- ==== Sys2Proof/Machine/Step.lean ====
section
/-! DEFINITION. One step of the machine: the next agent's atomic step (spec/00_scope.md R24). -/

namespace Sys2Proof.Machine

open Sys2Proof

/-- One atomic step of the agent whose turn it is; `SEQ_MAIN` takes the step of the command in progress, or the
dispatcher's own. -/
def step (s : State) : Host.Outcome State Fault Refusal :=
  match nextAgent s with
  | .host => .next (hostStep (takeTurn s))
  | .main =>
    match running s with
    | some i => exec i (takeTurn s)
    | none => dispatcherStep (takeTurn s)

/-- The state with a frame placed where `step` takes its next instruction from; a word that is no frame places
nothing (log 24). -/
def State.withFetchWord (s : State) (nbits w : Nat) : State :=
  match decodeTableWord nbits w with
  | some i => placeFrame i.code s
  | none => s

end Sys2Proof.Machine
end

