-- ==== Sys2Proof/Safety.lean ====
section
/-! DEFINITION. What counts as a safe run, in the terms the statements use: the invariants of the machine
(spec/10_state.md, spec/40_fifo_flow.md R177, spec/42_bus_sequencer.md R249), the model fault `ReadUnwritten`
(spec/10_state.md R68), and held, ended and stalled states (spec/70_reset_and_hazards.md R397). -/

namespace Sys2Proof.Machine

open Sys2Proof

/-! ## The FIFO as a queue -/

/-- The stored bytes, oldest first: the `occ` slots from `head` on (10_state.md R32 to R34). -/
def contents (s : State) : List Byte :=
  (List.range (occ s)).map fun k => slot s ((s.fifo.head + k) % s.cfg.capacity)

/-- A sequence of pushes (`some b`, a receive step) and pops (`none`) in which no push finds the FIFO full and no pop
finds it empty: the bytes popped, in order, and the state after it; none where that is not so. -/
def fifoRun : List (Option Byte) → State → Option (List Byte × State)
  | [], s => some ([], s)
  | some b :: l, s => if occ s < s.cfg.capacity - 1 then fifoRun l (rx b s) else none
  | none :: l, s =>
    if 0 < occ s then
      match fifoRun l (popData s) with
      | some (vs, t) => some (oldest s :: vs, t)
      | none => none
    else none

/-- The same result with its next state changed by `f`. -/
def mapNext (f : State → State) : Result → Result
  | .next t => .next (f t)
  | .fault r => .fault r
  | .refused r => .refused r

/-! ## Invariants -/

/-- Both memories are in canonical form. -/
abbrev MemoryOk (s : State) : Prop :=
  Memory.wf .fifo s.fifo.slots = true ∧ Memory.wf .target s.target.cells = true

/-- `head`, `tail` and every slot lie in `0 .. C-1`, of a capacity that 00_scope.md R8 allows (10_state.md R32,
R33). -/
abbrev IndicesOk (s : State) : Prop :=
  3 ≤ s.cfg.capacity ∧ s.fifo.head < s.cfg.capacity ∧ s.fifo.tail < s.cfg.capacity ∧
    ∀ c ∈ s.fifo.slots, c.1 < s.cfg.capacity

/-- The configuration is well formed and `active_prof` is an index of its table (10_state.md R43). -/
def ProfilesOk (s : State) : Prop :=
  s.cfg.WellFormed ∧ s.activeProf < s.cfg.profiles.length

/-- A frame waits whenever the dispatcher is about to drain one (40_fifo_flow.md R177, 41_dispatcher.md R202, R203), so
an underflow only ever happens in the three pops of operands (60_exceptions.md R342). -/
abbrev FrameOk (s : State) : Prop :=
  (s.seq = .idle → s.activeFlag = true → 2 ≤ occ s ∧ oldest s = 0x24) ∧
  (s.seq = .frMark → 2 ≤ occ s ∧ oldest s = 0x24) ∧
  (s.seq = .frCode → 1 ≤ occ s) ∧
  (s.udfWait = true → s.seq = .wrHi ∨ s.seq = .wrLo ∨ s.seq = .stKey)

/-- `busy` is 1 exactly while the dispatcher is Active (10_state.md R37, R58). -/
abbrev BusyOk (s : State) : Prop := s.busy = isActive s

/-- The flow-control signal is what the detector gives for the present occupancy: an update would not change it
(40_fifo_flow.md R169 to R171). -/
abbrev FlowOk (s : State) : Prop := s.fcPause = fcNext s.cfg.fcPolicy (occ s) s.fcPause

/-- The device bus in every state of the sequencer, for the active profile `p`: the disabled pattern with the data
bus released outside an operation (42_bus_sequencer.md R249); the read pattern held between the addresses of a Read or
BlankCheck (R240, R243); the programming pattern and the driven data bus held between those of a Write (R246), with the
pulse line moved to its active level only while a pulse runs (R245); at ABORT, before the safe state is restored
(43_commands.md R320), the lines as the loop top of the operation left them; and every loop step at an address below the
size (20_memory.md R82). -/
def busAt (p : Profile) (s : State) : Prop :=
  match s.seq with
  | .idle | .frMark | .frCode | .dispatch | .ident | .stKey | .baud | .done =>
    s.bus.ctl = p.ctlIdle ∧ s.bus.dir = .input
  | .rdTop | .rdAddr =>
    s.regs.cursor.toNat < p.size ∧ s.bus.dir = .input ∧
      s.bus.ctl = if s.regs.cursor = 0 then p.ctlIdle else p.ctlRead
  | .rdEn =>
    s.regs.cursor.toNat < p.size ∧ s.bus.dir = .input ∧ s.bus.addr = s.regs.cursor ∧
      s.bus.ctl = if s.regs.cursor = 0 then p.ctlIdle else p.ctlRead
  | .rdSample =>
    s.regs.cursor.toNat < p.size ∧ s.bus.dir = .input ∧ s.bus.addr = s.regs.cursor ∧ s.bus.ctl = p.ctlRead
  | .rdEnd => s.bus.dir = .input ∧ s.bus.ctl = p.ctlRead
  | .bcTop | .bcAddr =>
    s.regs.cursor.toNat < p.size ∧ s.bus.dir = .input ∧
      s.bus.ctl = if s.regs.cursor = 0 then p.ctlIdle else p.ctlBlank
  | .bcEn =>
    s.regs.cursor.toNat < p.size ∧ s.bus.dir = .input ∧ s.bus.addr = s.regs.cursor ∧
      s.bus.ctl = if s.regs.cursor = 0 then p.ctlIdle else p.ctlBlank
  | .bcSample =>
    s.regs.cursor.toNat < p.size ∧ s.bus.dir = .input ∧ s.bus.addr = s.regs.cursor ∧ s.bus.ctl = p.ctlBlank
  | .bcEnd => s.bus.dir = .input ∧ s.bus.ctl = p.ctlBlank
  | .wrTop | .wrHi | .wrLo | .wrDrive =>
    s.regs.cursor.toNat < p.size ∧
      if s.regs.cursor = 0 then s.bus.ctl = p.ctlIdle ∧ s.bus.dir = .input
      else s.bus.ctl = p.ctlProg ∧ s.bus.dir = .output
  | .wrPulse =>
    s.regs.cursor.toNat < p.size ∧ s.bus.dir = .output ∧ s.bus.addr = s.regs.cursor ∧
      s.bus.dout = s.regs.wdata ∧
      s.bus.ctl = if s.pulsing then p.ctlProg.setLine p.pulseLine p.pulseLevel else p.ctlProg
  | .wrEnd => s.bus.dir = .output ∧ s.bus.ctl = p.ctlProg
  | .abort =>
    s.regs.cursor.toNat < p.size ∧
      match s.regs.abortOp with
      | .read => s.bus.dir = .input ∧ s.bus.ctl = if s.regs.cursor = 0 then p.ctlIdle else p.ctlRead
      | .blankCheck => s.bus.dir = .input ∧ s.bus.ctl = if s.regs.cursor = 0 then p.ctlIdle else p.ctlBlank
      | .write =>
        if s.regs.cursor = 0 then s.bus.ctl = p.ctlIdle ∧ s.bus.dir = .input
        else s.bus.ctl = p.ctlProg ∧ s.bus.dir = .output

/-- The device bus is as `busAt` says for the active profile, and a pulse runs only inside WR_PULSE
(42_bus_sequencer.md R249). -/
def BusOk (s : State) : Prop :=
  (∀ p, activeProfile s = some p → busAt p s) ∧ (s.pulsing = true → s.seq = .wrPulse)

/-- No pattern that a profile rests on between pulses has the pulse line at its active level; of `ctlProg` a check
already says so (42_bus_sequencer.md R231), of the other three none does (log 26). -/
abbrev restsInactive (p : Profile) : Prop :=
  p.ctlIdle.line p.pulseLine ≠ p.pulseLevel ∧ p.ctlRead.line p.pulseLine ≠ p.pulseLevel ∧
    p.ctlBlank.line p.pulseLine ≠ p.pulseLevel

/-- The last clause of 42_bus_sequencer.md R249: the pulse line of the active profile is at its active level only
inside WR_PULSE. A profile whose own resting pattern has it there, which R231 allows, is excepted in exactly the states
that drive such a pattern (log 26). -/
def PulseLineOk (s : State) : Prop :=
  ∀ p, activeProfile s = some p → s.bus.ctl.line p.pulseLine = p.pulseLevel →
    (s.seq = .wrPulse ∧ s.pulsing = true) ∨
      (¬ restsInactive p ∧ s.bus.ctl ∈ [p.ctlIdle, p.ctlRead, p.ctlBlank])

/-! ## The model fault `ReadUnwritten` -/

/-- The registers of 10_state.md R31's unwritten list that the next step of `SEQ_MAIN` reads: DISPATCH
(41_dispatcher.md R204), the bus cycles (42_bus_sequencer.md R240 to R245), the loop advance (43_commands.md R272,
R282, R293) and ABORT (R320). -/
def readsRegs (s : State) : List Reg :=
  match s.seq with
  | .dispatch => [.cmd]
  | .rdAddr | .rdSample | .bcAddr | .bcSample => [.cursor]
  | .wrDrive => [.cHi, .cLo, .cursor]
  | .wrPulse => [.dout, .cursor]
  | .abort => [.abortOp, .cursor]
  | .idle | .frMark | .frCode | .rdTop | .rdEn | .rdEnd | .bcTop | .bcEn | .bcEnd
  | .wrTop | .wrHi | .wrLo | .wrEnd | .ident | .stKey | .baud | .done => []

/-- `ReadUnwritten(name)` (10_state.md R68, 60_exceptions.md R348): the register that the next step of `SEQ_MAIN`
would read although it holds no value. The model does not stop there (log 5); the statements say it never happens. -/
def readsUnwritten (s : State) : Option Reg :=
  (readsRegs s).find? fun r => s.unwritten.contains r

/-- The state with whatever a register holds forgotten: two states that agree after it differ in that register at
most. -/
def forget : Reg → State → State
  | .cmd, s => { s with regs := { s.regs with cmd := 0 } }
  | .cursor, s => { s with regs := { s.regs with cursor := 0 } }
  | .cHi, s => { s with regs := { s.regs with cHi := 0 } }
  | .cLo, s => { s with regs := { s.regs with cLo := 0 } }
  | .wdata, s => { s with regs := { s.regs with wdata := 0 } }
  | .rdata, s => { s with regs := { s.regs with rdata := 0 } }
  | .abortOp, s => { s with regs := { s.regs with abortOp := .read } }
  | .dout, s => { s with bus := { s.bus with dout := 0 } }

/-- The registers that hold a value by the time the sequencer is in a state (10_state.md R38 to R42, R47). -/
def liveRegs : Seq → List Reg
  | .idle | .frMark | .frCode | .ident | .stKey | .baud | .wrEnd | .done => []
  | .dispatch => [.cmd]
  | .rdTop | .rdAddr | .rdEn | .rdSample | .rdEnd => [.cursor]
  | .bcTop | .bcAddr | .bcEn | .bcSample | .bcEnd => [.cursor]
  | .wrTop | .wrHi => [.cursor]
  | .wrLo => [.cursor, .cHi]
  | .wrDrive => [.cursor, .cHi, .cLo]
  | .wrPulse => [.cursor, .dout]
  | .abort => [.cursor, .abortOp]

/-- Every register that a later step may read holds a value. -/
abbrev WrittenOk (s : State) : Prop := ∀ r ∈ liveRegs s.seq, r ∉ s.unwritten

/-- All invariants together. -/
def Inv (s : State) : Prop :=
  MemoryOk s ∧ IndicesOk s ∧ ProfilesOk s ∧ FrameOk s ∧ BusyOk s ∧ FlowOk s ∧ BusOk s ∧ WrittenOk s

/-- The states of the sequencer in which a command has a step: DISPATCH, its own states, ABORT of the iterating three,
and DONE (10_state.md R51). -/
def statesOf : Instr → List Seq
  | .read => [.dispatch, .rdTop, .rdAddr, .rdEn, .rdSample, .rdEnd, .abort, .done]
  | .blankCheck => [.dispatch, .bcTop, .bcAddr, .bcEn, .bcSample, .bcEnd, .abort, .done]
  | .write => [.dispatch, .wrTop, .wrHi, .wrLo, .wrDrive, .wrPulse, .wrEnd, .abort, .done]
  | .identify => [.dispatch, .ident, .done]
  | .setDeviceType => [.dispatch, .stKey, .done]
  | .initBaud => [.dispatch, .baud, .done]
  | .reserved _ => [.dispatch, .done]

/-! ## Held, ended, stalled -/

/-- `SEQ_MAIN` is held: its step is not enabled (41_dispatcher.md R201, 40_fifo_flow.md R165). -/
def mainHeld (s : State) : Bool :=
  match s.seq with
  | .idle => !s.activeFlag
  | .frMark | .frCode | .wrHi | .wrLo | .stKey => !s.udfWait && isEmpty s && decide (s.cfg.popPolicy = .block)
  | _ => false

/-- The run has ended (70_reset_and_hazards.md R397). -/
def ended (s : State) : Bool :=
  decide (s.env.script = []) && decide (s.seq = .idle) && !s.activeFlag

/-- The run has stalled: the script is exhausted and `SEQ_MAIN` is held in a pop (70_reset_and_hazards.md R397,
R388). -/
def stalled (s : State) : Bool :=
  decide (s.env.script = []) && mainHeld s && decide (s.seq ≠ .idle)

/-- Nothing but `SEQ_MAIN` moves: the host has nothing left to do and no schedule is left. -/
abbrev Quiet (s : State) : Prop := s.env.script = [] ∧ s.env.turns = []

/-- `n` steps, stopping at the first fault or refusal: `Host.Core.run` of the machine, said over `step`. -/
def steps : Nat → State → Result
  | 0, s => .next s
  | n + 1, s =>
    match step s with
    | .next t => steps n t
    | .fault r => .fault r
    | .refused r => .refused r

/-! ## What an operation puts out -/

/-- The hex dump of the first `n` addresses of a profile with `size` addresses, whose cells are `t`
(30_encoding.md R130). -/
def dump (size : Nat) (t : Nat → Byte) : Nat → List Byte
  | 0 => []
  | n + 1 => dump size t n ++ dumpItem size (BitVec.ofNat 16 n) (t n)

end Sys2Proof.Machine
end

