-- ==== Sys2Proof/Certificates/Slice0/Obligations.lean ====
section
/-! DEFINITION. The statements about SEQ, in the order of OBLIGATIONS.json. Every statement holds for every
configuration: `cfg` is a field of the state. A statement whose next state is written out as `s with …` says at once
what the step writes and that it leaves everything else alone. -/

open Sys2Proof Sys2Proof.Machine

/-! ## Encoding -/

/-- Decoding the frame of any well-formed instruction gives that instruction back and leaves the bytes after the
frame (30_encoding.md R120 to R123). -/
def Obligations.DecodeInvertsEncode : Prop :=
  ∀ (i : Instr) (rest : List Byte), i.wellFormed = true → decode (encode i ++ rest) = .ok (i, rest)

/-- What decodes is the frame of a well-formed instruction, so two different frames never decode to one instruction
(30_encoding.md R120 to R123). -/
def Obligations.DecodedFrameIsTheEncoding : Prop :=
  ∀ (bs : List Byte) (i : Instr) (rest : List Byte),
    decode bs = .ok (i, rest) → i.wellFormed = true ∧ bs = encode i ++ rest

/-- The frame words of 30_encoding.md R121 decode to their commands, every other code byte after the marker is
reserved (R123), and bytes that do not begin with the marker are no frame (R124). -/
def Obligations.FrameWordsDecodeAsTabled : Prop :=
  decodeTableWord 16 0x2431 = some .read ∧ decodeTableWord 16 0x2432 = some .write ∧
  decodeTableWord 16 0x2433 = some .blankCheck ∧ decodeTableWord 16 0x2434 = some .identify ∧
  decodeTableWord 16 0x2435 = some .setDeviceType ∧ decodeTableWord 16 0x2455 = some .initBaud ∧
  (∀ c : Byte, c ∉ [0x31, 0x32, 0x33, 0x34, 0x35, 0x55] →
    decode [0x24, c] = .ok (.reserved c, [])) ∧
  (∀ (m c : Byte) (rest : List Byte), m ≠ 0x24 → decode (m :: c :: rest) = .error (.noMarker m))

/-! ## Power-up and reset -/

/-- Reset (70_reset_and_hazards.md R380): a well-formed configuration powers up into a state with every register at
its reset value, `ADDR` being the drawn value `a`, and the registers that hold no value marked so. -/
def Obligations.PowerUpGivesResetValues : Prop :=
  ∀ (c : Config) (a : Addr) (tg : Target), c.WellFormed →
    ∃ s, powerUp c a tg = .next s ∧
      (∀ i, slot s i = 0) ∧ s.fifo.head = 0 ∧ s.fifo.tail = c.capacity - 1 ∧ occ s = 0 ∧
      s.fcPause = false ∧ pinFcN s = true ∧ s.activeFlag = false ∧ s.seq = .idle ∧ isActive s = false ∧
      s.activeProf = c.defaultProfile ∧
      (∀ p, c.profiles[c.defaultProfile]? = some p → s.bus.ctl = p.ctlIdle) ∧ s.bus.dir = .input ∧
      s.busy = false ∧ pinBusy s = false ∧ pinReady s = true ∧
      s.ovfSticky = false ∧ s.udfSticky = false ∧ pinOvfInd s = false ∧ pinUdfInd s = false ∧
      s.out = [] ∧ s.ev = [] ∧ s.bus.addr = a ∧
      (∀ r, r ∈ s.unwritten) ∧ s.target = tg ∧ s.cfg = c

/-- A configuration that fails a check is refused before a run, and only a failed check is named
(60_exceptions.md R348, 93_implementation_defined.md U16; which one, where several fail, is log 33); and what each check
asks: the capacity (00_scope.md R8), the watermarks (R9), the number of profiles (R12; that another number is refused is
the model's choice, log 34) and the default one (R12, U11), their sizes (R13), and the pulse level, the programming
pattern and, in MultiFamily, the keys (42_bus_sequencer.md R231). -/
def Obligations.IllFormedConfigIsRefused : Prop :=
  ∀ (c : Config) (a : Addr) (tg : Target),
    (¬ c.WellFormed → ∃ k, powerUp c a tg = .refused (.configRefused k)) ∧
    (∀ k, powerUp c a tg = .refused (.configRefused k) → c.passes k = false) ∧
    (c.passes .capacity = true ↔ 3 ≤ c.capacity) ∧
    (∀ hwm lwm, c.fcPolicy = .hysteresis hwm lwm →
      (c.passes .watermarks = true ↔ 1 ≤ lwm ∧ lwm ≤ hwm ∧ (hwm : Int) ≤ (c.capacity : Int) - 2)) ∧
    (∀ m, c.fcPolicy = .single m → (c.passes .watermarks = true ↔ (m : Int) ≤ (c.capacity : Int) - 2)) ∧
    (c.variant = .singleFamily → (c.passes .profileCount = true ↔ c.profiles.length = 1)) ∧
    (c.variant = .multiFamily → (c.passes .profileCount = true ↔ 1 ≤ c.profiles.length)) ∧
    (c.passes .defaultProfile = true ↔ c.defaultProfile < c.profiles.length) ∧
    (c.passes .profileSize = true ↔ ∀ p ∈ c.profiles, 1 ≤ p.size ∧ p.size ≤ 65536) ∧
    (c.passes .pulseLevel = true ↔ ∀ p ∈ c.profiles, p.pulseLevel = .low ∨ p.pulseLevel = .high) ∧
    (c.passes .pulseLevel = true →
      (c.passes .pulsePattern = true ↔ ∀ p ∈ c.profiles,
        (p.pulseLevel = .low → p.ctlProg.line p.pulseLine = .high) ∧
        (p.pulseLevel = .high → p.ctlProg.line p.pulseLine = .low))) ∧
    (c.variant = .singleFamily → c.passes .keys = true) ∧
    (c.variant = .multiFamily →
      (c.passes .keys = true ↔ ∀ (i j : Nat) (p q : Profile),
        c.profiles[i]? = some p → c.profiles[j]? = some q → i ≠ j → p.key ≠ q.key))

/-- Every invariant holds right after power-up of every well-formed configuration with every target in canonical form.
The machine that `State.reset` describes has a well-formed configuration, whatever the OPEN values of 00_scope.md are
(the model's own choice of configuration, log 3), and `State.reset` is what powering it up gives, so the invariants hold
there. -/
def Obligations.ResetMeetsEveryInvariant : Prop :=
  (∀ (c : Config) (a : Addr) (tg : Target), c.WellFormed → Memory.wf .target tg.cells = true →
    ∃ s, powerUp c a tg = .next s ∧ Inv s) ∧
  Config.hw.WellFormed ∧ powerUp Config.hw Config.resetAddr Target.erased = .next State.reset ∧ Inv State.reset

/-! ## The receive FIFO -/

/-- An accepted push (40_fifo_flow.md R161), recorded as an event (60_exceptions.md R340). -/
def Obligations.AcceptedPushStoresAtTail : Prop :=
  ∀ (b : Byte) (s : State), MemoryOk s → IndicesOk s → occ s < s.cfg.capacity - 1 →
    (pushAccept b s).fifo.tail = (s.fifo.tail + 1) % s.cfg.capacity ∧
    slot (pushAccept b s) ((s.fifo.tail + 1) % s.cfg.capacity) = b ∧
    (∀ i, i ≠ (s.fifo.tail + 1) % s.cfg.capacity → slot (pushAccept b s) i = slot s i) ∧
    (pushAccept b s).fifo.head = s.fifo.head ∧
    occ (pushAccept b s) = occ s + 1 ∧
    pushAccept b s = { s with fifo := (pushAccept b s).fifo, ev := s.ev ++ [.push b] }

/-- A byte that arrives at a full FIFO is dropped (40_fifo_flow.md R162, 60_exceptions.md R341): no index and no slot
changes, `Overflow` is recorded, the sticky bit is set; the flow update and the framer still run. That the dropped byte
has this one record and no `Push` beside it is log 21, the model's reading of 60_exceptions.md R340. -/
def Obligations.FullFifoDropsTheByte : Prop :=
  ∀ (b : Byte) (s : State), occ s = s.cfg.capacity - 1 →
    rx b s =
      { s with
        ovfSticky := true
        fcPause := fcNext s.cfg.fcPolicy (occ s) s.fcPause
        activeFlag := s.activeFlag || decide (1 < occ s ∧ oldest s = 0x24)
        ev := s.ev ++ [.overflow b] ++
          (if s.activeFlag = false ∧ 1 < occ s ∧ oldest s = 0x24 then [.flagRaised] else []) }

/-- The receive path writes nothing but `tail`, FIFO slots, `fc_pause`, `active_flag` (which it never clears),
`ovf_sticky` and the event history, so a byte that arrives during a programming pulse cannot touch `CTL`, `ADDR` or
`D` (10_state.md R31, R67; 42_bus_sequencer.md R245). -/
def Obligations.ReceivePathCannotTouchTheBus : Prop :=
  ∀ (b : Byte) (s : State),
    rx b s =
      { s with
        fifo := { s.fifo with slots := (rx b s).fifo.slots, tail := (rx b s).fifo.tail }
        fcPause := (rx b s).fcPause
        activeFlag := (rx b s).activeFlag
        ovfSticky := (rx b s).ovfSticky
        ev := (rx b s).ev } ∧
    (s.activeFlag = true → (rx b s).activeFlag = true) ∧
    (s.ovfSticky = true → (rx b s).ovfSticky = true)

/-- A pop with data (40_fifo_flow.md R164, R167), while no underflow's wait lasts: it returns `fifo[head]`, advances `head` modulo C, updates the flow
signal from the new occupancy, and leaves every slot and everything else alone. -/
def Obligations.PopTakesTheOldestByte : Prop :=
  ∀ s : State, IndicesOk s → 0 < occ s → s.udfWait = false →
    (∀ k : Byte → State → Result, withPop s k = k (slot s s.fifo.head) (popData s)) ∧
    occ (popData s) = occ s - 1 ∧
    popData s =
      { s with
        fifo := { s.fifo with head := (s.fifo.head + 1) % s.cfg.capacity }
        fcPause := fcNext s.cfg.fcPolicy (occ s - 1) s.fcPause
        ev := s.ev ++ [.pop (slot s s.fifo.head)] }

/-- A pop of Write that finds the FIFO empty under `FailFast` (40_fifo_flow.md R166, 60_exceptions.md R342). Its first
step, up to `wait T_UDF`, records `Underflow` and sets the sticky bit, and nothing else changes; in that wait a received
byte is one receive step, which leaves it waiting; and its second step goes on with the sentinel, whatever the FIFO then
holds, so a byte that arrived in between stays there for the next pop. The wait as a step of its own is log 16; that the
pop has the one record `Underflow` and no `Pop`, in neither step, is log 21, the model's reading of 60_exceptions.md R340;
and `UDF_IND` at 1 during the wait is log 23. -/
def Obligations.EmptyFailFastPopGivesSentinel : Prop :=
  ∀ s : State,
    (s.seq = .wrHi ∨ s.seq = .wrLo → s.udfWait = false → occ s = 0 → s.cfg.popPolicy = .failFast →
      exec .write s = .next { s with udfSticky := true, udfWait := true, ev := s.ev ++ [.underflow] } ∧
      pinUdfInd (popUnderflow s) = true) ∧
    (s.udfWait = true → ∀ b, (rx b s).udfWait = true ∧ (rx b s).seq = s.seq) ∧
    (s.seq = .wrHi → s.udfWait = true → exec .write s = .next
      { s with
        udfWait := false
        regs := { s.regs with cHi := s.cfg.sentinel }
        unwritten := s.unwritten.filter (fun x => x != .cHi), seq := .wrLo }) ∧
    (s.seq = .wrLo → s.udfWait = true → exec .write s = .next
      { s with
        udfWait := false
        regs := { s.regs with cLo := s.cfg.sentinel }
        unwritten := s.unwritten.filter (fun x => x != .cLo), seq := .wrDrive })

/-- A held sequencer changes nothing: in IDLE while `active_flag = 0` (41_dispatcher.md R201) and in a `Block` pop on an
empty FIFO (40_fifo_flow.md R165), its step only uses up its turn; and a cancel does not end the hold of a pop
(R165). -/
def Obligations.HeldSequencerChangesNothing : Prop :=
  ∀ s : State, mainHeld s = true →
    (nextAgent s = .main → step s = .next { s with env := { s.env with turns := s.env.turns.tail } }) ∧
    (s.seq ≠ .idle → mainHeld (cancel s) = true)

/-- After a clear, and after reset, the FIFO is empty and the flow signal released, under either policy
(40_fifo_flow.md R173). -/
def Obligations.ClearReleasesTheFlowSignal : Prop :=
  (∀ s : State, s.cfg.WellFormed →
    occ (clear s) = 0 ∧ (clear s).fcPause = false ∧ (∀ i, slot (clear s) i = 0) ∧
    clear s = { s with fifo := { slots := [], head := 0, tail := s.cfg.capacity - 1 }, fcPause := false }) ∧
  (∀ (c : Config) (a : Addr) (tg : Target), c.WellFormed →
    occ (State.resetWith c a tg) = 0 ∧ (State.resetWith c a tg).fcPause = false)

/-- The FIFO law (20_memory.md R92): over any sequence of receive steps and pops from an empty FIFO that never exceeds
its capacity, the bytes popped, followed by the bytes still stored, are the bytes pushed, in order; and the occupancy
is the number of pushes less the number of pops. -/
def Obligations.FifoDeliversBytesInOrder : Prop :=
  ∀ (ops : List (Option Byte)) (s t : State) (popped : List Byte),
    MemoryOk s → IndicesOk s → occ s = 0 → fifoRun ops s = some (popped, t) →
    popped ++ contents t = ops.filterMap id ∧
    popped.length + occ t = (ops.filterMap id).length

/-- The flow-control detector under both policies (40_fifo_flow.md R170, R171). -/
def Obligations.FlowDetectorFollowsPolicy : Prop :=
  ∀ s : State,
    (∀ m, s.cfg.fcPolicy = .single m → fcUpdate s = { s with fcPause := decide (occ s > m) }) ∧
    (∀ hwm lwm, s.cfg.fcPolicy = .hysteresis hwm lwm →
      (occ s > hwm → fcUpdate s = { s with fcPause := true }) ∧
      (¬ occ s > hwm → occ s < lwm → fcUpdate s = { s with fcPause := false }) ∧
      (¬ occ s > hwm → ¬ occ s < lwm → fcUpdate s = s))

/-- The framer (40_fifo_flow.md R175) and its place at the end of every receive step (R160): it raises `active_flag`
exactly where a marker is the oldest byte of at least two, records a raise only on a change from 0 to 1
(60_exceptions.md R340), and changes nothing else. -/
def Obligations.FramerRaisesActiveFlag : Prop :=
  (∀ s : State,
    (1 < occ s → slot s s.fifo.head = 0x24 → s.activeFlag = false →
      framer s = { s with activeFlag := true, ev := s.ev ++ [.flagRaised] }) ∧
    (1 < occ s → slot s s.fifo.head = 0x24 → s.activeFlag = true → framer s = s) ∧
    (¬ (1 < occ s ∧ slot s s.fifo.head = 0x24) → framer s = s)) ∧
  (∀ (b : Byte) (s : State),
    rx b s = framer (fcUpdate (if occ s = s.cfg.capacity - 1 then pushReject b s else pushAccept b s)))

/-- The skid bound (70_reset_and_hazards.md R389): bytes that fit into the free slots are all accepted, so a host
whose skid is at most `C - 2 - mark` loses nothing when the signal falls at `occ = mark + 1`. -/
def Obligations.SkidWithinBoundLosesNothing : Prop :=
  ∀ (bs : List Byte) (s : State) (mark : Nat), IndicesOk s → mark + 2 ≤ s.cfg.capacity → occ s = mark + 1 →
    bs.length ≤ s.cfg.capacity - 2 - mark →
    occ (bs.foldl (fun u b => rx b u) s) = mark + 1 + bs.length ∧
    (bs.foldl (fun u b => rx b u) s).ovfSticky = s.ovfSticky

/-! ## The dispatcher -/

/-- Step IDLE (41_dispatcher.md R201), with BUSY and READY (10_state.md R58). -/
def Obligations.IdleStepRaisesBusy : Prop :=
  ∀ s : State, s.seq = .idle → nextAgent s = .main → s.activeFlag = true →
    ∃ t, step s = .next t ∧
      t = { s with busy := true, seq := .frMark, env := { s.env with turns := s.env.turns.tail } } ∧
      pinBusy t = true ∧ pinReady t = false

/-- Steps IDLE, FR_MARK and FR_CODE drain a waiting frame (41_dispatcher.md R201 to R203): three steps pop two bytes
and leave the second in `cmd`, and the next step is the step of the command it decodes to. -/
def Obligations.WaitingFrameIsDrainedAndRun : Prop :=
  ∀ s : State, Quiet s → IndicesOk s → FrameOk s → s.seq = .idle → s.activeFlag = true →
    ∃ t, steps 3 s = .next t ∧ t.seq = .dispatch ∧ t.busy = true ∧
      t.regs.cmd = slot s ((s.fifo.head + 1) % s.cfg.capacity) ∧
      t.ev = s.ev ++ [.pop 0x24, .pop (slot s ((s.fifo.head + 1) % s.cfg.capacity))] ∧
      occ t = occ s - 2 ∧ t.fifo.slots = s.fifo.slots ∧
      t.out = s.out ∧ t.bus = s.bus ∧ t.target = s.target ∧
      step t = exec (decodeCode t.regs.cmd) t

/-- Step DISPATCH (41_dispatcher.md R204): the drained code byte selects exactly one operation, `'5'` only in
MultiFamily, and every other byte is reserved and recorded as `UnknownCommand`. -/
def Obligations.DispatchSelectsTheOperation : Prop :=
  ∀ s : State, s.seq = .dispatch →
    (s.regs.cmd = 0x31 → running s = some .read ∧ exec .read s = .next
      { s with
        regs := { s.regs with cursor := 0 }
        unwritten := s.unwritten.filter (fun x => x != .cursor), seq := .rdTop }) ∧
    (s.regs.cmd = 0x32 → running s = some .write ∧ exec .write s = .next
      { s with
        regs := { s.regs with cursor := 0 }
        unwritten := s.unwritten.filter (fun x => x != .cursor), seq := .wrTop }) ∧
    (s.regs.cmd = 0x33 → running s = some .blankCheck ∧ exec .blankCheck s = .next
      { s with
        regs := { s.regs with cursor := 0 }
        unwritten := s.unwritten.filter (fun x => x != .cursor), seq := .bcTop }) ∧
    (s.regs.cmd = 0x34 → running s = some .identify ∧ exec .identify s = .next { s with seq := .ident }) ∧
    (s.regs.cmd = 0x35 → running s = some .setDeviceType ∧
      (s.cfg.variant = .multiFamily → exec .setDeviceType s = .next { s with seq := .stKey }) ∧
      (s.cfg.variant = .singleFamily →
        exec .setDeviceType s = .next { s with ev := s.ev ++ [.unknownCommand 0x35], seq := .done })) ∧
    (s.regs.cmd = 0x55 → running s = some .initBaud ∧ exec .initBaud s = .next { s with seq := .baud }) ∧
    (∀ c, s.regs.cmd = c → c ∉ [0x31, 0x32, 0x33, 0x34, 0x35, 0x55] →
      running s = some (.reserved c) ∧
      exec (.reserved c) s = .next { s with ev := s.ev ++ [.unknownCommand c], seq := .done })

/-- Step DONE of every command (41_dispatcher.md R206): FIFO cleared, `active_flag` and `busy` cleared, back to IDLE,
in one step that leaves the device bus alone. (`busyFell` is the model's record for `AWAIT`, log 19.) -/
def Obligations.DoneReturnsEveryCommandToIdle : Prop :=
  ∀ (i : Instr) (s : State), s.seq = .done → s.cfg.WellFormed →
    exec i s = .next
      { s with
        fifo := { slots := [], head := 0, tail := s.cfg.capacity - 1 }
        fcPause := false, activeFlag := false, busy := false, seq := .idle
        env := { s.env with busyFell := s.env.busyFell || s.busy } }

/-- A reserved code, and `'5'` in SingleFamily (30_encoding.md R123, 41_dispatcher.md R205): two steps take the drained
frame through DISPATCH and DONE; the FIFO is cleared and the one record in the history is `UnknownCommand`; no output,
no bus cycle, no change of profile or register. (`busyFell` is the model's record for `AWAIT`, log 19.) -/
def Obligations.ReservedCodeIsANoOp : Prop :=
  ∀ s : State, Quiet s → s.cfg.WellFormed → s.seq = .dispatch →
    (s.regs.cmd ∉ [0x31, 0x32, 0x33, 0x34, 0x35, 0x55] ∨
      (s.regs.cmd = 0x35 ∧ s.cfg.variant = .singleFamily)) →
    steps 2 s = .next
      { s with
        fifo := { slots := [], head := 0, tail := s.cfg.capacity - 1 }
        fcPause := false, activeFlag := false, busy := false, seq := .idle
        ev := s.ev ++ [.unknownCommand s.regs.cmd]
        env := { s.env with busyFell := s.env.busyFell || s.busy } }

/-! ## The steps of the iterating commands -/

/-- The loop-top checks of Read, BlankCheck and Write (43_commands.md R271, R281, R290). -/
def Obligations.LoopTopChecksActiveFlag : Prop :=
  ∀ s : State,
    (s.seq = .rdTop → exec .read s = .next (if s.activeFlag then { s with seq := .rdAddr } else
      { s with
        regs := { s.regs with abortOp := .read }
        unwritten := s.unwritten.filter (fun x => x != .abortOp), seq := .abort })) ∧
    (s.seq = .bcTop → exec .blankCheck s = .next (if s.activeFlag then { s with seq := .bcAddr } else
      { s with
        regs := { s.regs with abortOp := .blankCheck }
        unwritten := s.unwritten.filter (fun x => x != .abortOp), seq := .abort })) ∧
    (s.seq = .wrTop → exec .write s = .next (if s.activeFlag then { s with seq := .wrHi } else
      { s with
        regs := { s.regs with abortOp := .write }
        unwritten := s.unwritten.filter (fun x => x != .abortOp), seq := .abort }))

/-- The address step of a read cycle (42_bus_sequencer.md R240), which leaves `CTL` alone, and the enable step (R241),
with the pattern of the command's own profile field (R230). -/
def Obligations.ReadCycleDrivesAddressThenPattern : Prop :=
  ∀ s : State,
    (s.seq = .rdAddr → exec .read s =
      .next { s with bus := { s.bus with addr := s.regs.cursor, dir := .input }, seq := .rdEn }) ∧
    (s.seq = .bcAddr → exec .blankCheck s =
      .next { s with bus := { s.bus with addr := s.regs.cursor, dir := .input }, seq := .bcEn }) ∧
    (∀ p, s.cfg.profiles[s.activeProf]? = some p →
      (s.seq = .rdEn → exec .read s = .next { s with bus := { s.bus with ctl := p.ctlRead }, seq := .rdSample }) ∧
      (s.seq = .bcEn → exec .blankCheck s =
        .next { s with bus := { s.bus with ctl := p.ctlBlank }, seq := .bcSample }))

/-- Step RD_SAMPLE (42_bus_sequencer.md R242, 43_commands.md R272): the byte `d` that the bus carries goes to `rdata`, is
recorded and is printed with its row prefix and separator, and the cursor advances or the loop ends. `d` is `T[ADDR]`
where a fitted target drives the bus (20_memory.md R86), else a free value (42_bus_sequencer.md R243; log 8). -/
def Obligations.ReadSamplePrintsTheByte : Prop :=
  ∀ (s : State) (p : Profile) (d : Byte) (driven : Bool), s.cfg.profiles[s.activeProf]? = some p →
    s.seq = .rdSample → s.bus.addr.toNat < p.size →
    driven = (s.target.fitted && decide (s.bus.dir = .input ∧ s.bus.ctl = p.ctlRead)) →
    d = (if driven then memGet .target s.target.cells s.bus.addr.toNat else Config.freeByte s.draws) →
    exec .read s = .next
      { s with
        draws := if driven then s.draws else s.draws + 1
        ev := s.ev ++ [.readCycle s.bus.addr d]
        out := s.out ++ ((if s.regs.cursor.toNat % 16 = 0 then hex4 s.regs.cursor ++ [0x3A, 0x20] else []) ++ hex2 d ++
          (if s.regs.cursor.toNat % 16 = 15 ∨ s.regs.cursor.toNat = p.size - 1 then [0x0A] else [0x20]))
        regs := if s.regs.cursor.toNat + 1 = p.size then { s.regs with rdata := d }
          else { s.regs with rdata := d, cursor := BitVec.ofNat 16 (s.regs.cursor.toNat + 1) }
        unwritten := if s.regs.cursor.toNat + 1 = p.size then s.unwritten.filter (fun x => x != .rdata)
          else (s.unwritten.filter (fun x => x != .rdata)).filter (fun x => x != .cursor)
        seq := if s.regs.cursor.toNat + 1 = p.size then .rdEnd else .rdTop }

/-- Step BC_SAMPLE (42_bus_sequencer.md R242, 43_commands.md R282, R283): an erased byte advances the scan without
output; any other is recorded, reported with its address ("Erase check fail at address 0x", 30_encoding.md R131, written
out with its digits), and ends the scan with the bus in the safe state. -/
def Obligations.BlankSampleComparesWithErased : Prop :=
  ∀ (s : State) (p : Profile) (d : Byte) (driven : Bool), s.cfg.profiles[s.activeProf]? = some p →
    s.seq = .bcSample → s.bus.addr.toNat < p.size →
    driven = (s.target.fitted && decide (s.bus.dir = .input ∧ s.bus.ctl = p.ctlBlank)) →
    d = (if driven then memGet .target s.target.cells s.bus.addr.toNat else Config.freeByte s.draws) →
    (d ≠ 0xFF → exec .blankCheck s = .next
      { s with
        draws := if driven then s.draws else s.draws + 1
        ev := s.ev ++ [.readCycle s.bus.addr d, .verificationFailure s.regs.cursor d]
        out := s.out ++ ([0x45, 0x72, 0x61, 0x73, 0x65, 0x20, 0x63, 0x68, 0x65, 0x63, 0x6B, 0x20, 0x66, 0x61, 0x69, 0x6C,
          0x20, 0x61, 0x74, 0x20, 0x61, 0x64, 0x64, 0x72, 0x65, 0x73, 0x73, 0x20, 0x30, 0x78] ++
          hex2 (s.regs.cursor.extractLsb' 8 8) ++ hex2 (s.regs.cursor.extractLsb' 0 8) ++
          [0x20, 0x3D, 0x20, 0x30, 0x78] ++ hex2 d ++ [0x0A])
        bus := { s.bus with ctl := p.ctlIdle, dir := .input }
        regs := { s.regs with rdata := d }
        unwritten := s.unwritten.filter (fun x => x != .rdata), seq := .done }) ∧
    (d = 0xFF → s.regs.cursor.toNat + 1 = p.size → exec .blankCheck s = .next
      { s with
        draws := if driven then s.draws else s.draws + 1
        ev := s.ev ++ [.readCycle s.bus.addr d]
        regs := { s.regs with rdata := d }
        unwritten := s.unwritten.filter (fun x => x != .rdata), seq := .bcEnd }) ∧
    (d = 0xFF → s.regs.cursor.toNat + 1 ≠ p.size → exec .blankCheck s = .next
      { s with
        draws := if driven then s.draws else s.draws + 1
        ev := s.ev ++ [.readCycle s.bus.addr d]
        regs := { s.regs with rdata := d, cursor := BitVec.ofNat 16 (s.regs.cursor.toNat + 1) }
        unwritten := (s.unwritten.filter (fun x => x != .rdata)).filter (fun x => x != .cursor), seq := .bcTop })

/-- The normal exits RD_END, BC_END and WR_END (43_commands.md R274, R284, R295): the bus goes to the safe state; Read
prints nothing more, BlankCheck and Write print "OK". -/
def Obligations.NormalExitRestoresTheBus : Prop :=
  ∀ (s : State) (p : Profile), s.cfg.profiles[s.activeProf]? = some p →
    (s.seq = .rdEnd → exec .read s =
      .next { s with bus := { s.bus with ctl := p.ctlIdle, dir := .input }, seq := .done }) ∧
    (s.seq = .bcEnd → exec .blankCheck s = .next
      { s with bus := { s.bus with ctl := p.ctlIdle, dir := .input }, out := s.out ++ [0x4F, 0x4B], seq := .done }) ∧
    (s.seq = .wrEnd → exec .write s = .next
      { s with bus := { s.bus with ctl := p.ctlIdle, dir := .input }, out := s.out ++ [0x4F, 0x4B], seq := .done })

/-- Steps WR_HI and WR_LO, outside the wait of an underflow, with a byte in the FIFO (43_commands.md R291, R292; the pop itself is
`PopTakesTheOldestByte`), and with an empty FIFO under `Block`, where they hold (40_fifo_flow.md R165; that a step which
is not enabled is an unchanged next state is the model's choice, log 17). -/
def Obligations.WritePopsTwoCharacters : Prop :=
  ∀ s : State, s.udfWait = false →
    (s.seq = .wrHi → 0 < occ s → exec .write s = .next
      { popData s with
        regs := { s.regs with cHi := slot s s.fifo.head }
        unwritten := s.unwritten.filter (fun x => x != .cHi), seq := .wrLo }) ∧
    (s.seq = .wrLo → 0 < occ s → exec .write s = .next
      { popData s with
        regs := { s.regs with cLo := slot s s.fifo.head }
        unwritten := s.unwritten.filter (fun x => x != .cLo), seq := .wrDrive }) ∧
    (s.seq = .wrHi ∨ s.seq = .wrLo → occ s = 0 → s.cfg.popPolicy = .block → exec .write s = .next s)

/-- The value of a payload character (30_encoding.md R126): decimal digits, both letter cases, and a draw for any other
byte (the free value of the present draw, the model's choice of log 7); and the digits that SEQ prints for a byte and for
an address, in upper case, have the values they print (00_scope.md R22). -/
def Obligations.HexCharactersHaveTheirValue : Prop :=
  (∀ (c : Byte) (n : Nat),
    (0x30 ≤ c.toNat → c.toNat ≤ 0x39 → (nibbleOf c n).toNat = c.toNat - 0x30 ∧ drawsAfter c n = n) ∧
    (0x41 ≤ c.toNat → c.toNat ≤ 0x46 → (nibbleOf c n).toNat = c.toNat - 0x41 + 10 ∧ drawsAfter c n = n) ∧
    (0x61 ≤ c.toNat → c.toNat ≤ 0x66 → (nibbleOf c n).toNat = c.toNat - 0x61 + 10 ∧ drawsAfter c n = n) ∧
    (¬ (0x30 ≤ c.toNat ∧ c.toNat ≤ 0x39) → ¬ (0x41 ≤ c.toNat ∧ c.toNat ≤ 0x46) →
      ¬ (0x61 ≤ c.toNat ∧ c.toNat ≤ 0x66) → nibbleOf c n = Config.freeNibble n ∧ drawsAfter c n = n + 1)) ∧
  (∀ (hi lo : Nibble), hex2 (hi ++ lo : BitVec 8) = [hex1 hi, hex1 lo] ∧ hexval (hex1 hi) = some hi ∧
    ¬ (0x61 ≤ (hex1 hi).toNat)) ∧
  (∀ (hi lo : Byte), hex4 (hi ++ lo : BitVec 16) = hex2 hi ++ hex2 lo)

/-- Step WR_DRIVE (42_bus_sequencer.md R244, 30_encoding.md R127): the first character is the high nibble; address,
data, direction and the programming pattern are driven together. The count of draws, and that the high nibble is drawn
before the low one, are the model's choice (log 7). -/
def Obligations.DriveStepPutsTheByteOnTheBus : Prop :=
  ∀ (s : State) (p : Profile) (d : Byte), s.cfg.profiles[s.activeProf]? = some p → s.seq = .wrDrive →
    d = (nibbleOf s.regs.cHi s.draws ++ nibbleOf s.regs.cLo (drawsAfter s.regs.cHi s.draws) : BitVec 8) →
    exec .write s = .next
      { s with
        draws := drawsAfter s.regs.cLo (drawsAfter s.regs.cHi s.draws)
        regs := { s.regs with wdata := d }
        bus := { addr := s.regs.cursor, dir := .output, dout := d, ctl := p.ctlProg }
        unwritten := (s.unwritten.filter (fun x => x != .wdata)).filter (fun x => x != .dout), seq := .wrPulse }

/-- Step WR_PULSE (42_bus_sequencer.md R245, 43_commands.md R293): its first half asserts the pulse line; its second
half, whatever other agents did in between, deasserts it, programs the cell at `ADDR` of a fitted target (log 30), records
the cycle and advances the cursor or ends the loop. -/
def Obligations.PulseStepProgramsTheCell : Prop :=
  ∀ (s : State) (p : Profile), s.cfg.profiles[s.activeProf]? = some p → s.seq = .wrPulse →
    (s.pulsing = false → exec .write s = .next
      { s with bus := { s.bus with ctl := s.bus.ctl.setLine p.pulseLine p.pulseLevel }, pulsing := true }) ∧
    (s.pulsing = true → s.bus.addr.toNat < p.size → exec .write s = .next
      { s with
        bus := { s.bus with ctl := s.bus.ctl.setLine p.pulseLine p.pulseLevel.inv }
        pulsing := false
        target := if s.target.fitted = true then
            { s.target with
              cells := memSet .target s.target.cells s.bus.addr.toNat
                (Config.programFn (memGet .target s.target.cells s.bus.addr.toNat) s.bus.dout) }
          else s.target
        ev := s.ev ++ [.programCycle s.bus.addr s.bus.dout]
        regs := if s.regs.cursor.toNat + 1 = p.size then s.regs
          else { s.regs with cursor := BitVec.ofNat 16 (s.regs.cursor.toNat + 1) }
        unwritten := if s.regs.cursor.toNat + 1 = p.size then s.unwritten
          else s.unwritten.filter (fun x => x != .cursor)
        seq := if s.regs.cursor.toNat + 1 = p.size then .wrEnd else .wrTop })

/-- A programming pulse commits the byte on the data bus into an erased cell (20_memory.md R86 b), changes no other
cell (R87), and leaves the pulse line back at its inactive level, `CTL = P.ctl_prog` (42_bus_sequencer.md R245). -/
def Obligations.PulseOverErasedCellStoresTheByte : Prop :=
  ∀ (s : State) (p : Profile), Inv s → activeProfile s = some p → s.seq = .wrPulse → s.pulsing = true →
    s.target.fitted = true → cell s s.bus.addr = 0xFF →
    ∃ t, exec .write s = .next t ∧ cell t s.bus.addr = s.bus.dout ∧
      (∀ a, a ≠ s.bus.addr → cell t a = cell s a) ∧ t.bus.ctl = p.ctlProg

/-- Step ABORT of the three iterating commands (43_commands.md R320): the bus goes to the safe state, the abort is
recorded with its operation and address, the message is printed ("Read", "Write" or "BlankCheck", then " aborted" and a
newline, 30_encoding.md R131), DONE follows; the FIFO is not cleared. -/
def Obligations.AbortRestoresTheBusAndReports : Prop :=
  ∀ (i : Instr) (s : State) (p : Profile), i ∈ [Instr.read, Instr.blankCheck, Instr.write] →
    s.cfg.profiles[s.activeProf]? = some p → s.seq = .abort →
    exec i s = .next
      { s with
        bus := { s.bus with ctl := p.ctlIdle, dir := .input }
        ev := s.ev ++ [.operationAborted s.regs.abortOp s.regs.cursor]
        out := s.out ++
          ((match s.regs.abortOp with
            | .read => ([0x52, 0x65, 0x61, 0x64] : List Byte)
            | .write => [0x57, 0x72, 0x69, 0x74, 0x65]
            | .blankCheck => [0x42, 0x6C, 0x61, 0x6E, 0x6B, 0x43, 0x68, 0x65, 0x63, 0x6B]) ++
            [0x20, 0x61, 0x62, 0x6F, 0x72, 0x74, 0x65, 0x64, 0x0A])
        seq := .done }

/-! ## The commands without an address loop -/

/-- Identify (43_commands.md R305). -/
def Obligations.IdentifyEmitsTheIdentity : Prop :=
  ∀ (s : State) (p : Profile), s.cfg.profiles[s.activeProf]? = some p → s.seq = .ident →
    exec .identify s = .next { s with out := s.out ++ p.ident, seq := .done }

/-- InitBaud (43_commands.md R315): "Already init". -/
def Obligations.InitBaudAcknowledges : Prop :=
  ∀ s : State, s.seq = .baud →
    exec .initBaud s = .next
      { s with
        out := s.out ++ [0x41, 0x6C, 0x72, 0x65, 0x61, 0x64, 0x79, 0x20, 0x69, 0x6E, 0x69, 0x74]
        seq := .done }

/-- Step ST_KEY (43_commands.md R310, R311): the popped key byte, or the sentinel that an empty `FailFast` pop returns
after its wait, selects the profile with that key, drives its disabled pattern and reports "OK"; an unknown key changes
nothing and reports nothing; an empty `FailFast` pop begins with the record and the sticky bit (40_fifo_flow.md R166), an
empty `Block` pop holds (R165). The wait of an underflow as a step of its own is log 16, a held step as an unchanged
next state is log 17, and that an empty `FailFast` pop has the one record `Underflow` and no `Pop`, also when the sentinel
is taken, is log 21, the model's reading of 60_exceptions.md R340. -/
def Obligations.KeyByteSelectsTheProfile : Prop :=
  ∀ s : State, s.seq = .stKey → s.cfg.variant = .multiFamily → s.cfg.WellFormed →
    (∀ (k : Byte) (t : State),
      ((s.udfWait = false ∧ 0 < occ s ∧ k = slot s s.fifo.head ∧ t = popData s) ∨
        (s.udfWait = true ∧ k = s.cfg.sentinel ∧ t = { s with udfWait := false })) →
      (∀ (i : Nat) (p : Profile), s.cfg.profiles[i]? = some p → p.key = k →
        exec .setDeviceType s = .next
          { t with
            activeProf := i, bus := { s.bus with ctl := p.ctlIdle }
            out := s.out ++ [0x4F, 0x4B], seq := .done }) ∧
      ((∀ p ∈ s.cfg.profiles, p.key ≠ k) → exec .setDeviceType s = .next { t with seq := .done })) ∧
    (s.udfWait = false → occ s = 0 → s.cfg.popPolicy = .failFast → exec .setDeviceType s = .next
      { s with udfSticky := true, udfWait := true, ev := s.ev ++ [.underflow] }) ∧
    (s.udfWait = false → occ s = 0 → s.cfg.popPolicy = .block → exec .setDeviceType s = .next s)

/-- After a SetDeviceType that switches to the profile with a key, the key popped or taken as the sentinel of an empty
`FailFast` pop, Identify emits that profile's identity (43_commands.md R312). -/
def Obligations.IdentityFollowsTheProfileSwitch : Prop :=
  ∀ (s : State) (i : Nat) (p : Profile) (k : Byte), s.seq = .stKey → s.cfg.variant = .multiFamily →
    s.cfg.WellFormed →
    ((s.udfWait = false ∧ 0 < occ s ∧ k = slot s s.fifo.head) ∨ (s.udfWait = true ∧ k = s.cfg.sentinel)) →
    s.cfg.profiles[i]? = some p → p.key = k →
    ∃ t, exec .setDeviceType s = .next t ∧ t.activeProf = i ∧
      ∀ u : State, u.cfg = t.cfg → u.activeProf = t.activeProf → u.seq = .ident →
        exec .identify u = .next { u with out := u.out ++ p.ident, seq := .done }

/-! ## Cancel -/

/-- One step of the host (30_encoding.md R135, 60_exceptions.md R347): a sent byte is one receive step; where the input
exists a cancel clears `active_flag`, records itself and changes nothing else of SEQ; an `AWAIT` passes once `BUSY` has
fallen since the last sent byte (log 19); and a host that is not enabled, or has nothing left to do, changes nothing
(log 17, 18). -/
def Obligations.HostActionsAreAtomicSteps : Prop :=
  ∀ s : State, nextAgent s = .host →
    (∀ b rest, s.env.script = .send b :: rest → step s = .next
      (rx b { s with env := { script := rest, turns := s.env.turns.tail, busyFell := false } })) ∧
    (∀ rest, s.env.script = .cancel :: rest → s.cfg.hasCancel = true → step s = .next
      { s with
        activeFlag := false, ev := s.ev ++ [.cancel]
        env := { s.env with script := rest, turns := s.env.turns.tail } }) ∧
    (∀ rest, s.env.script = .await :: rest → s.env.busyFell = true → step s = .next
      { s with env := { s.env with script := rest, turns := s.env.turns.tail } }) ∧
    ((s.env.script = [] ∨ (∃ rest, s.env.script = .cancel :: rest ∧ s.cfg.hasCancel = false) ∨
        (∃ rest, s.env.script = .await :: rest ∧ s.env.busyFell = false)) →
      step s = .next { s with env := { s.env with turns := s.env.turns.tail } })

/-- A cancelled operation stops at its next loop top (60_exceptions.md R344, 43_commands.md R271, R281, R290, R320):
three steps later the machine is idle, the abort message is the only further output, the lines are safe, and the
target is untouched. -/
def Obligations.CancelledOperationStopsAtLoopTop : Prop :=
  ∀ (s : State) (p : Profile) (op : Op), Quiet s → activeProfile s = some p → s.cfg.WellFormed →
    (s.seq, op) ∈ [(Seq.rdTop, Op.read), (Seq.bcTop, Op.blankCheck), (Seq.wrTop, Op.write)] →
    s.activeFlag = false →
    ∃ t, steps 3 s = .next t ∧ t.seq = .idle ∧ t.busy = false ∧
      t.out = s.out ++ textAborted op ∧ t.ev = s.ev ++ [.operationAborted op s.regs.cursor] ∧
      t.bus.ctl = p.ctlIdle ∧ t.bus.dir = .input ∧ t.bus.addr = s.bus.addr ∧ t.target = s.target ∧
      t.regs.cursor = s.regs.cursor ∧ occ t = 0

/-- `active_flag` is read by `SEQ_MAIN` only in IDLE and at the loop tops (41_dispatcher.md R207): everywhere else two
runs of a step that differ in the flag differ in nothing else, and DONE erases the difference. -/
def Obligations.OnlyIdleAndLoopTopsReadActiveFlag : Prop :=
  ∀ (i : Instr) (s : State) (b : Bool),
    (s.seq ∉ [Seq.rdTop, .bcTop, .wrTop, .done] →
      exec i { s with activeFlag := b } = mapNext (fun t => { t with activeFlag := b }) (exec i s)) ∧
    (s.seq = .done → exec i { s with activeFlag := b } = exec i s) ∧
    (s.seq ≠ .idle →
      dispatcherStep { s with activeFlag := b } = mapNext (fun t => { t with activeFlag := b }) (dispatcherStep s))

/-! ## Frames -/

/-- What Read and BlankCheck leave alone: every target cell, the profile selection, every register but `cursor`,
`rdata`, `abort_op`, `ADDR`, `dbus_dir` and `CTL`, the sticky bits, and, before DONE, the FIFO, `active_flag`, `fc_pause`
and `busy` (43_commands.md R270 to R284: "Flags written: none"). -/
def Obligations.ReadAndBlankCheckFrame : Prop :=
  ∀ s t : State, exec .read s = .next t ∨ exec .blankCheck s = .next t →
    (∀ a, cell t a = cell s a) ∧ t.target = s.target ∧ t.cfg = s.cfg ∧ t.activeProf = s.activeProf ∧
    t.regs = { s.regs with cursor := t.regs.cursor, rdata := t.regs.rdata, abortOp := t.regs.abortOp } ∧
    t.bus.dout = s.bus.dout ∧ t.pulsing = s.pulsing ∧ t.ovfSticky = s.ovfSticky ∧ t.udfSticky = s.udfSticky ∧
    t.udfWait = s.udfWait ∧ t.env.script = s.env.script ∧ t.env.turns = s.env.turns ∧
    (s.seq ≠ .done → t.fifo = s.fifo ∧ t.activeFlag = s.activeFlag ∧ t.fcPause = s.fcPause ∧ t.busy = s.busy ∧
      t.env = s.env)

/-- What Write leaves alone: every target cell but the one at `ADDR` in the second half of its pulse step, the profile
selection, every register but `cursor`, `c_hi`, `c_lo`, `wdata`, `abort_op` and those of the bus, `ovf_sticky`; outside
its two pops also the flow signal, and before DONE `active_flag` and `busy` (43_commands.md R290 to R295). -/
def Obligations.WriteFrame : Prop :=
  ∀ s t : State, exec .write s = .next t →
    (∀ a, ¬ (s.seq = .wrPulse ∧ s.pulsing = true ∧ a = s.bus.addr) → cell t a = cell s a) ∧
    t.target.fitted = s.target.fitted ∧ t.cfg = s.cfg ∧ t.activeProf = s.activeProf ∧
    t.regs = { s.regs with cursor := t.regs.cursor, cHi := t.regs.cHi, cLo := t.regs.cLo, wdata := t.regs.wdata, abortOp := t.regs.abortOp } ∧
    t.ovfSticky = s.ovfSticky ∧ t.env.script = s.env.script ∧ t.env.turns = s.env.turns ∧
    (s.seq ≠ .wrPulse → t.pulsing = s.pulsing) ∧
    (s.seq ∉ [Seq.wrDrive, .wrPulse, .wrEnd, .abort] → t.bus = s.bus) ∧
    (s.seq ∉ [Seq.wrHi, .wrLo, .done] → t.fifo = s.fifo ∧ t.fcPause = s.fcPause ∧ t.udfSticky = s.udfSticky ∧
      t.udfWait = s.udfWait) ∧
    (s.seq ≠ .done → t.activeFlag = s.activeFlag ∧ t.busy = s.busy ∧ t.env = s.env ∧
      t.fifo.slots = s.fifo.slots ∧ t.fifo.tail = s.fifo.tail)

/-- What Identify, SetDeviceType, InitBaud and the reserved codes leave alone: every target cell, every command
register, `ADDR`, `dbus_dir` and `dout`, and, but for the key step of SetDeviceType, the profile selection and `CTL`
(43_commands.md R305 to R315: no bus cycle; 41_dispatcher.md R205). -/
def Obligations.ImmediateCommandFrame : Prop :=
  ∀ (i : Instr) (s t : State), i ∉ [Instr.read, Instr.blankCheck, Instr.write] → exec i s = .next t →
    (∀ a, cell t a = cell s a) ∧ t.target = s.target ∧ t.cfg = s.cfg ∧ t.regs = s.regs ∧
    t.bus = { s.bus with ctl := t.bus.ctl } ∧ t.pulsing = s.pulsing ∧ t.ovfSticky = s.ovfSticky ∧
    t.unwritten = s.unwritten ∧ t.draws = s.draws ∧ t.env.script = s.env.script ∧ t.env.turns = s.env.turns ∧
    (s.seq ≠ .stKey → t.activeProf = s.activeProf ∧ t.bus = s.bus ∧ t.udfSticky = s.udfSticky ∧
      t.udfWait = s.udfWait) ∧
    (s.seq ≠ .done → t.activeFlag = s.activeFlag ∧ t.busy = s.busy ∧ t.env = s.env ∧
      t.fifo.slots = s.fifo.slots ∧ t.fifo.tail = s.fifo.tail) ∧
    (s.seq ≠ .stKey → s.seq ≠ .done → t.fifo = s.fifo ∧ t.fcPause = s.fcPause)

/-! ## The step -/

/-- A step runs the decoded instruction: at DISPATCH the frame's code byte decodes and `step` is that command's
meaning at the state whose turn is used up; in a command's own states it is the meaning of the command in progress;
and a placed frame is run by the very next step (41_dispatcher.md R204, 10_state.md R51). -/
def Obligations.StepRunsTheDecodedCommand : Prop :=
  (∀ (s : State) (i : Instr), nextAgent s = .main → s.seq = .dispatch → decode [0x24, s.regs.cmd] = .ok (i, []) →
    step s = exec i (takeTurn s)) ∧
  (∀ (s : State) (i : Instr), nextAgent s = .main → running s = some i → step s = exec i (takeTurn s)) ∧
  (∀ (s : State) (i : Instr), i.wellFormed = true →
    step (s.withFetchWord 16 (encodeWord i)) = exec i (takeTurn (s.withFetchWord 16 (encodeWord i))))

/-- Every step of every agent keeps both memories in canonical form. -/
def Obligations.EveryStepKeepsMemoryCanonical : Prop :=
  ∀ s t : State, MemoryOk s → step s = .next t → MemoryOk t

/-- Every step keeps `head`, `tail` and the slots within the FIFO (10_state.md R33), and so the occupancy within
`0 .. C-1` (R34). -/
def Obligations.EveryStepKeepsFifoIndicesInRange : Prop :=
  ∀ s t : State, IndicesOk s → step s = .next t → IndicesOk t ∧ occ t ≤ t.cfg.capacity - 1

/-- Whenever `seq = IDLE` and `active_flag = 1` a frame waits (40_fifo_flow.md R177), one still waits while the
dispatcher drains it (41_dispatcher.md R202), and an underflow's wait lasts only in WR_HI, WR_LO and ST_KEY
(60_exceptions.md R342): every step keeps it so. -/
def Obligations.EveryStepKeepsFrameWaiting : Prop :=
  ∀ s t : State, MemoryOk s → IndicesOk s → FrameOk s → step s = .next t → FrameOk t

/-- `busy` is 1 exactly while the dispatcher is Active: every step keeps it so (10_state.md R37, R58). -/
def Obligations.EveryStepKeepsBusyEqualActive : Prop :=
  ∀ s t : State, BusyOk s → step s = .next t → BusyOk t

/-- The flow signal always agrees with the detector at the present occupancy: every step keeps it so
(40_fifo_flow.md R169 to R171; 10_state.md R35). -/
def Obligations.EveryStepKeepsFlowSignalCurrent : Prop :=
  ∀ s t : State, FlowOk s → step s = .next t → FlowOk t

/-- The safety of the device bus (42_bus_sequencer.md R249, R243, R246; 20_memory.md R82): every step of every agent
keeps the lines as `busAt` says, for every well-formed configuration; in particular the lines are at the disabled
pattern and the data bus is released whenever no operation runs. And in every state in which the lines are so, the
pulse line is at its active level only inside WR_PULSE, for every profile that does not itself rest with that line at
that level; for one that does (Q2 of 95_test_vectors.md), only there and where CTL is such a resting pattern (log 26). -/
def Obligations.EveryStepKeepsTheBusSafe : Prop :=
  (∀ s t : State, ProfilesOk s → BusOk s → step s = .next t → ProfilesOk t ∧ BusOk t) ∧
  (∀ s : State, ProfilesOk s → BusOk s → PulseLineOk s ∧
    ∀ p, activeProfile s = some p → restsInactive p → s.bus.ctl.line p.pulseLine = p.pulseLevel →
      s.seq = .wrPulse ∧ s.pulsing = true)

/-- No step reads a register that holds no value (10_state.md R68): the registers a later step may read have been
written, every step keeps it so, and then the next step of `SEQ_MAIN` reads no register that `readsUnwritten` would name
(log 5). And `step` itself reads none: from two such states that differ at most in a register that holds no value, the
steps give results that differ at most in that register. -/
def Obligations.NoStepReadsAnUnwrittenRegister : Prop :=
  (∀ s t : State, WrittenOk s → step s = .next t → WrittenOk t) ∧
  (∀ s : State, WrittenOk s → readsUnwritten s = none) ∧
  (∀ (r : Reg) (s u : State), WrittenOk s → r ∈ s.unwritten → forget r s = forget r u →
    mapNext (forget r) (step s) = mapNext (forget r) (step u))

/-- No step changes the configuration (10_state.md R55), and the active profile changes only in the key step of
SetDeviceType (R43). -/
def Obligations.OnlySetDeviceTypeChangesTheProfile : Prop :=
  ∀ s t : State, step s = .next t →
    t.cfg = s.cfg ∧ (t.activeProf ≠ s.activeProf → s.seq = .stKey ∧ nextAgent s = .main)

/-- What the machine never takes back (10_state.md R66, R70, R49, R50): a step only appends to the event history and to
the output stream, and no step clears a sticky bit. -/
def Obligations.HistoryOutputAndStickyBitsOnlyGrow : Prop :=
  ∀ s t : State, step s = .next t →
    (∃ l, t.ev = s.ev ++ l) ∧ (∃ l, t.out = s.out ++ l) ∧
    (s.ovfSticky = true → t.ovfSticky = true) ∧ (s.udfSticky = true → t.udfSticky = true)

/-- A target cell changes only in the second half of a programming pulse, and only at `ADDR` (20_memory.md R82, R87;
10_state.md R65). -/
def Obligations.OnlyAPulseChangesTheTarget : Prop :=
  ∀ (s t : State) (a : Addr), step s = .next t → cell t a ≠ cell s a →
    nextAgent s = .main ∧ s.seq = .wrPulse ∧ s.pulsing = true ∧ a = s.bus.addr

/-- Where a meaning stops, and nowhere else (the model's own faults, log 12, 13, 14): a command asked for a step that is
not its own; a step that reads the active profile where there is none; a bus cycle at an address the profile does not
have. No meaning refuses. -/
def Obligations.MeaningsStopOnlyOutsideTheMachine : Prop :=
  ∀ (i : Instr) (s : State), (∀ r, exec i s ≠ .refused r) ∧
    (exec i s = .fault .outOfSequence ↔ s.seq ∉ statesOf i) ∧
    (exec i s = .fault .noProfile ↔ s.seq ∈ statesOf i ∧ activeProfile s = none ∧
      s.seq ∈ [Seq.rdEn, .rdSample, .rdEnd, .bcEn, .bcSample, .bcEnd, .wrDrive, .wrPulse, .wrEnd, .ident, .abort]) ∧
    (∀ a, exec i s = .fault (.targetAddress a) ↔ a = s.bus.addr ∧ s.seq ∈ statesOf i ∧
      (s.seq = .rdSample ∨ s.seq = .bcSample ∨ s.seq = .wrPulse ∧ s.pulsing = true) ∧
      ∃ p, activeProfile s = some p ∧ p.size ≤ s.bus.addr.toNat)

/-- No stop: from every state that meets the invariants, whatever the host and the schedule do, a step answers a next
state, which meets them again (60_exceptions.md R348: neither model fault is reachable). -/
def Obligations.InvariantStatesNeverStop : Prop :=
  ∀ s : State, Inv s → ∃ t, step s = .next t ∧ Inv t

/-! ## Whole commands -/

/-- A Read that nothing disturbs (43_commands.md R270, 30_encoding.md R130): from its DISPATCH step, `4 x size + 3` steps
print the hex dump of the whole target, one read cycle per address in rising order, and return to IDLE with the
target unchanged and the lines safe. -/
def Obligations.ReadDumpsTheWholeTarget : Prop :=
  ∀ (s : State) (p : Profile), Quiet s → s.cfg.WellFormed → activeProfile s = some p →
    s.seq = .dispatch → s.regs.cmd = 0x31 → s.activeFlag = true → s.target.fitted = true →
    ∃ t, steps (4 * p.size + 3) s = .next t ∧ t.seq = .idle ∧ t.busy = false ∧
      t.out = s.out ++ dump p.size (memGet .target s.target.cells) p.size ∧
      t.ev = s.ev ++ (List.range p.size).map (fun a =>
        .readCycle (BitVec.ofNat 16 a) (memGet .target s.target.cells a)) ∧
      t.target = s.target ∧ t.bus.ctl = p.ctlIdle ∧ t.bus.dir = .input ∧ occ t = 0

/-- A BlankCheck that nothing disturbs (43_commands.md R285): where `k` is the first address that is not erased, it
reads exactly the addresses `0 .. k`, reports `k` and its byte, and stops; over an erased target it reads every address
and prints "OK". -/
def Obligations.BlankCheckReportsFirstFailure : Prop :=
  ∀ (s : State) (p : Profile), Quiet s → s.cfg.WellFormed → activeProfile s = some p →
    s.seq = .dispatch → s.regs.cmd = 0x33 → s.activeFlag = true → s.target.fitted = true →
    (∀ k, k < p.size → memGet .target s.target.cells k ≠ 0xFF →
      (∀ a, a < k → memGet .target s.target.cells a = 0xFF) →
      ∃ t, steps (4 * k + 6) s = .next t ∧ t.seq = .idle ∧
        t.out = s.out ++ textFail (BitVec.ofNat 16 k) (memGet .target s.target.cells k) ∧
        t.ev = s.ev ++ (List.range (k + 1)).map (fun a =>
            .readCycle (BitVec.ofNat 16 a) (memGet .target s.target.cells a)) ++
          [.verificationFailure (BitVec.ofNat 16 k) (memGet .target s.target.cells k)] ∧
        t.target = s.target ∧ t.bus.ctl = p.ctlIdle ∧ t.bus.dir = .input) ∧
    ((∀ a, a < p.size → memGet .target s.target.cells a = 0xFF) →
      ∃ t, steps (4 * p.size + 3) s = .next t ∧ t.seq = .idle ∧
        t.out = s.out ++ [0x4F, 0x4B] ∧
        t.ev = s.ev ++ (List.range p.size).map (fun a => .readCycle (BitVec.ofNat 16 a) 0xFF) ∧
        t.target = s.target ∧ t.bus.ctl = p.ctlIdle ∧ t.bus.dir = .input)

/-- A Write that nothing disturbs, over an erased target, with its whole payload of hexadecimal characters in the FIFO
(43_commands.md R290, R296; 30_encoding.md R127): `6 x size + 3` steps program every address with the byte its pair of
characters spells, change no other cell, print "OK" and leave the lines safe. The count takes the pulse as two steps
(log 15). Payload that arrives while the Write runs is left to the statements about its steps. -/
def Obligations.WriteProgramsThePayload : Prop :=
  ∀ (s : State) (p : Profile) (payload rest : List Byte), Quiet s → Inv s → activeProfile s = some p →
    s.seq = .dispatch → s.regs.cmd = 0x32 → s.activeFlag = true → s.target.fitted = true →
    contents s = payload ++ rest → payload.length = 2 * p.size → (∀ c ∈ payload, (hexval c).isSome = true) →
    (∀ a, a < p.size → memGet .target s.target.cells a = 0xFF) →
    ∃ t, steps (6 * p.size + 3) s = .next t ∧ t.seq = .idle ∧ t.out = s.out ++ [0x4F, 0x4B] ∧
      (∀ a hi lo, payload[2 * a]? = some hi → payload[2 * a + 1]? = some lo →
        memGet .target t.target.cells a = joinNibbles (nibbleOf hi 0) (nibbleOf lo 0)) ∧
      (∀ a, p.size ≤ a → memGet .target t.target.cells a = memGet .target s.target.cells a) ∧
      t.bus.ctl = p.ctlIdle ∧ t.bus.dir = .input ∧ t.draws = s.draws

/-- The round trip (43_commands.md R296), for a payload that is whole in the FIFO when Write begins: after that Write, a Read of the same target prints the hex dump of exactly the
bytes the payload spells. -/
def Obligations.WriteThenReadRoundTrip : Prop :=
  ∀ (s : State) (p : Profile) (payload rest : List Byte) (bytes : Nat → Byte), Quiet s → Inv s →
    activeProfile s = some p →
    s.seq = .dispatch → s.regs.cmd = 0x32 → s.activeFlag = true → s.target.fitted = true →
    contents s = payload ++ rest → payload.length = 2 * p.size → (∀ c ∈ payload, (hexval c).isSome = true) →
    (∀ a, a < p.size → memGet .target s.target.cells a = 0xFF) →
    (∀ a hi lo, payload[2 * a]? = some hi → payload[2 * a + 1]? = some lo →
      bytes a = joinNibbles (nibbleOf hi 0) (nibbleOf lo 0)) →
    ∃ n t, steps n s = .next t ∧ t.seq = .idle ∧
      ∀ u : State, Quiet u → u.cfg = t.cfg → u.activeProf = t.activeProf → u.target = t.target →
        u.seq = .dispatch → u.regs.cmd = 0x31 → u.activeFlag = true →
        ∃ m v, steps m u = .next v ∧ v.seq = .idle ∧
          v.out = u.out ++ dump p.size bytes p.size
end

