-- ==== Sys2Proof/Laws/Memory.lean ====
section
/-! SUPPORT. The laws of the canonical memory: a read after a write, everything else unchanged, every operation keeps
the form, and equal reads are equal data. -/

namespace Sys2Proof.Machine

open Sys2Proof

variable {sp : Space}

@[simp] theorem memGet_nil (a : Nat) : memGet sp [] a = unlisted sp := rfl

theorem memory_wf_cons {c : Host.Cell} {m : Memory} :
    Memory.wf sp (c :: m) = true ↔
      c.2 ≠ unlisted sp ∧ (∀ d ∈ m, c.1 < d.1) ∧ Memory.wf sp m = true := by
  simp [Memory.wf, and_assoc]

/-- Below every listed address a memory reads as unlisted. -/
theorem memGet_below {m : Memory} {a : Nat} (h : ∀ d ∈ m, a < d.1) : memGet sp m a = unlisted sp := by
  induction m with
  | nil => rfl
  | cons c m ih =>
    have hc := h c (by simp)
    rw [memGet, if_neg (by omega)]
    exact ih fun d hd => h d (by simp [hd])

/-- A read after a write to the same address gives the byte written. -/
theorem memGet_memSet_same {m : Memory} (h : Memory.wf sp m = true) (a : Nat) (b : Byte) :
    memGet sp (memSet sp m a b) a = b := by
  induction m with
  | nil => by_cases hb : b = unlisted sp <;> simp [memSet, memGet, hb]
  | cons c m ih =>
    obtain ⟨-, hlt, hm⟩ := memory_wf_cons.1 h
    simp only [memSet]
    by_cases h1 : a < c.1
    · by_cases hb : b = unlisted sp
      · subst hb
        simp only [h1, if_true]
        apply memGet_below
        intro d hd
        rcases List.mem_cons.1 hd with rfl | hd
        · exact h1
        · exact h1.trans (hlt d hd)
      · simp [h1, hb, memGet]
    · by_cases h2 : a = c.1
      · by_cases hb : b = unlisted sp
        · subst hb
          simp only [h2, lt_irrefl, if_false, if_true]
          exact memGet_below hlt
        · simp [h2, hb, memGet]
      · simp [h1, h2, memGet, ih hm]

/-- A write leaves every other address alone. -/
theorem memGet_memSet_other {m : Memory} {a a' : Nat} (h : a' ≠ a) (b : Byte) :
    memGet sp (memSet sp m a b) a' = memGet sp m a' := by
  induction m with
  | nil => by_cases hb : b = unlisted sp <;> simp [memSet, memGet, hb, h]
  | cons c m ih =>
    simp only [memSet]
    by_cases h1 : a < c.1
    · by_cases hb : b = unlisted sp <;> simp [h1, hb, memGet, h]
    · by_cases h2 : a = c.1
      · by_cases hb : b = unlisted sp <;> simp [h2, hb, memGet, h2 ▸ h]
      · simp only [h1, h2, if_false, memGet, ih]

/-- Every address a written memory lists was listed before or is the one written. -/
theorem mem_memSet {m : Memory} {a : Nat} {b : Byte} {d : Host.Cell} (h : d ∈ memSet sp m a b) :
    d ∈ m ∨ d.1 = a := by
  induction m with
  | nil =>
    by_cases hb : b = unlisted sp
    · simp [memSet, hb] at h
    · simp only [memSet, hb, if_false, List.mem_singleton] at h
      simp [h]
  | cons c m ih =>
    simp only [memSet] at h
    split at h
    · split at h
      · exact .inl h
      · rcases List.mem_cons.1 h with rfl | h
        · exact .inr rfl
        · exact .inl h
    · split at h
      · split at h
        · exact .inl (by simp [h])
        · rcases List.mem_cons.1 h with rfl | h
          · exact .inr rfl
          · exact .inl (by simp [h])
      · rcases List.mem_cons.1 h with rfl | h
        · exact .inl (by simp)
        · rcases ih h with h | h
          · exact .inl (by simp [h])
          · exact .inr h

/-- A write keeps the canonical form. -/
theorem memory_wf_memSet {m : Memory} (h : Memory.wf sp m = true) (a : Nat) (b : Byte) :
    Memory.wf sp (memSet sp m a b) = true := by
  induction m with
  | nil =>
    by_cases hb : b = unlisted sp
    · simp [memSet, hb, Memory.wf]
    · simp [memSet, hb, Memory.wf]
  | cons c m ih =>
    obtain ⟨hc, hlt, hm⟩ := memory_wf_cons.1 h
    simp only [memSet]
    by_cases h1 : a < c.1
    · by_cases hb : b = unlisted sp
      · simpa [h1, hb] using h
      · simp only [h1, hb, if_true, if_false]
        refine memory_wf_cons.2 ⟨hb, fun d hd => ?_, h⟩
        rcases List.mem_cons.1 hd with rfl | hd
        · exact h1
        · exact h1.trans (hlt d hd)
    · by_cases h2 : a = c.1
      · by_cases hb : b = unlisted sp
        · simpa [h2, hb] using hm
        · simp only [h2, lt_irrefl, hb, if_false, if_true]
          exact memory_wf_cons.2 ⟨hb, hlt, hm⟩
      · simp only [h1, h2, if_false]
        refine memory_wf_cons.2 ⟨hc, fun d hd => ?_, ih hm⟩
        rcases mem_memSet hd with hd | hd
        · exact hlt d hd
        · omega

/-- Two canonical memories that read alike everywhere are the same data. -/
theorem memory_ext {m m' : Memory} (h : Memory.wf sp m = true) (h' : Memory.wf sp m' = true)
    (e : ∀ a, memGet sp m a = memGet sp m' a) : m = m' := by
  induction m generalizing m' with
  | nil =>
    cases m' with
    | nil => rfl
    | cons c m' =>
      have := e c.1
      simp only [memGet, if_true] at this
      exact absurd this.symm (memory_wf_cons.1 h').1
  | cons c m ih =>
    obtain ⟨hc, hlt, hm⟩ := memory_wf_cons.1 h
    cases m' with
    | nil =>
      have := e c.1
      simp only [memGet, if_true] at this
      exact absurd this hc
    | cons c' m' =>
      obtain ⟨hc', hlt', hm'⟩ := memory_wf_cons.1 h'
      have hk : c.1 = c'.1 := by
        rcases Nat.lt_trichotomy c.1 c'.1 with hk | hk | hk
        · have := e c.1
          rw [memGet, if_pos rfl, memGet_below] at this
          · exact absurd this hc
          · intro d hd
            rcases List.mem_cons.1 hd with rfl | hd
            · exact hk
            · exact hk.trans (hlt' d hd)
        · exact hk
        · have := e c'.1
          rw [memGet_below, memGet, if_pos rfl] at this
          · exact absurd this.symm hc'
          · intro d hd
            rcases List.mem_cons.1 hd with rfl | hd
            · exact hk
            · exact hk.trans (hlt d hd)
      have hv : c = c' := by
        have := e c.1
        simp only [memGet, if_true, hk] at this
        exact Prod.ext hk this
      subst hv
      congr 1
      refine ih hm hm' fun a => ?_
      have := e a
      simp only [memGet] at this
      by_cases ha : a = c.1
      · rw [memGet_below (ha ▸ hlt), memGet_below (ha ▸ hlt')]
      · simpa [ha] using this

end Sys2Proof.Machine
end

