-- ==== Sys2Proof/Laws/State.lean ====
section
/-! SUPPORT. One lemma per field per named update of the state, so that no later proof unfolds a record update. -/

namespace Sys2Proof.Machine

open Sys2Proof

variable (s : State)

/-! `goto` -/

@[simp] theorem goto_cfg (q : Seq) : (goto q s).cfg = s.cfg := rfl
@[simp] theorem goto_fifo (q : Seq) : (goto q s).fifo = s.fifo := rfl
@[simp] theorem goto_fcPause (q : Seq) : (goto q s).fcPause = s.fcPause := rfl
@[simp] theorem goto_activeFlag (q : Seq) : (goto q s).activeFlag = s.activeFlag := rfl
@[simp] theorem goto_seq (q : Seq) : (goto q s).seq = q := rfl
@[simp] theorem goto_pulsing (q : Seq) : (goto q s).pulsing = s.pulsing := rfl
@[simp] theorem goto_regs (q : Seq) : (goto q s).regs = s.regs := rfl
@[simp] theorem goto_activeProf (q : Seq) : (goto q s).activeProf = s.activeProf := rfl
@[simp] theorem goto_bus (q : Seq) : (goto q s).bus = s.bus := rfl
@[simp] theorem goto_busy (q : Seq) : (goto q s).busy = s.busy := rfl
@[simp] theorem goto_ovfSticky (q : Seq) : (goto q s).ovfSticky = s.ovfSticky := rfl
@[simp] theorem goto_udfSticky (q : Seq) : (goto q s).udfSticky = s.udfSticky := rfl
@[simp] theorem goto_udfWait (q : Seq) : (goto q s).udfWait = s.udfWait := rfl
@[simp] theorem goto_out (q : Seq) : (goto q s).out = s.out := rfl
@[simp] theorem goto_target (q : Seq) : (goto q s).target = s.target := rfl
@[simp] theorem goto_ev (q : Seq) : (goto q s).ev = s.ev := rfl
@[simp] theorem goto_unwritten (q : Seq) : (goto q s).unwritten = s.unwritten := rfl
@[simp] theorem goto_draws (q : Seq) : (goto q s).draws = s.draws := rfl
@[simp] theorem goto_env (q : Seq) : (goto q s).env = s.env := rfl

/-! `emit` -/

@[simp] theorem emit_cfg (bs : List Byte) : (emit bs s).cfg = s.cfg := rfl
@[simp] theorem emit_fifo (bs : List Byte) : (emit bs s).fifo = s.fifo := rfl
@[simp] theorem emit_fcPause (bs : List Byte) : (emit bs s).fcPause = s.fcPause := rfl
@[simp] theorem emit_activeFlag (bs : List Byte) : (emit bs s).activeFlag = s.activeFlag := rfl
@[simp] theorem emit_seq (bs : List Byte) : (emit bs s).seq = s.seq := rfl
@[simp] theorem emit_pulsing (bs : List Byte) : (emit bs s).pulsing = s.pulsing := rfl
@[simp] theorem emit_regs (bs : List Byte) : (emit bs s).regs = s.regs := rfl
@[simp] theorem emit_activeProf (bs : List Byte) : (emit bs s).activeProf = s.activeProf := rfl
@[simp] theorem emit_bus (bs : List Byte) : (emit bs s).bus = s.bus := rfl
@[simp] theorem emit_busy (bs : List Byte) : (emit bs s).busy = s.busy := rfl
@[simp] theorem emit_ovfSticky (bs : List Byte) : (emit bs s).ovfSticky = s.ovfSticky := rfl
@[simp] theorem emit_udfSticky (bs : List Byte) : (emit bs s).udfSticky = s.udfSticky := rfl
@[simp] theorem emit_udfWait (bs : List Byte) : (emit bs s).udfWait = s.udfWait := rfl
@[simp] theorem emit_out (bs : List Byte) : (emit bs s).out = s.out ++ bs := rfl
@[simp] theorem emit_target (bs : List Byte) : (emit bs s).target = s.target := rfl
@[simp] theorem emit_ev (bs : List Byte) : (emit bs s).ev = s.ev := rfl
@[simp] theorem emit_unwritten (bs : List Byte) : (emit bs s).unwritten = s.unwritten := rfl
@[simp] theorem emit_draws (bs : List Byte) : (emit bs s).draws = s.draws := rfl
@[simp] theorem emit_env (bs : List Byte) : (emit bs s).env = s.env := rfl

/-! `raiseEvent` -/

@[simp] theorem raiseEvent_cfg (e : Event) : (raiseEvent e s).cfg = s.cfg := rfl
@[simp] theorem raiseEvent_fifo (e : Event) : (raiseEvent e s).fifo = s.fifo := rfl
@[simp] theorem raiseEvent_fcPause (e : Event) : (raiseEvent e s).fcPause = s.fcPause := rfl
@[simp] theorem raiseEvent_activeFlag (e : Event) : (raiseEvent e s).activeFlag = s.activeFlag := rfl
@[simp] theorem raiseEvent_seq (e : Event) : (raiseEvent e s).seq = s.seq := rfl
@[simp] theorem raiseEvent_pulsing (e : Event) : (raiseEvent e s).pulsing = s.pulsing := rfl
@[simp] theorem raiseEvent_regs (e : Event) : (raiseEvent e s).regs = s.regs := rfl
@[simp] theorem raiseEvent_activeProf (e : Event) : (raiseEvent e s).activeProf = s.activeProf := rfl
@[simp] theorem raiseEvent_bus (e : Event) : (raiseEvent e s).bus = s.bus := rfl
@[simp] theorem raiseEvent_busy (e : Event) : (raiseEvent e s).busy = s.busy := rfl
@[simp] theorem raiseEvent_ovfSticky (e : Event) : (raiseEvent e s).ovfSticky = s.ovfSticky := rfl
@[simp] theorem raiseEvent_udfSticky (e : Event) : (raiseEvent e s).udfSticky = s.udfSticky := rfl
@[simp] theorem raiseEvent_udfWait (e : Event) : (raiseEvent e s).udfWait = s.udfWait := rfl
@[simp] theorem raiseEvent_out (e : Event) : (raiseEvent e s).out = s.out := rfl
@[simp] theorem raiseEvent_target (e : Event) : (raiseEvent e s).target = s.target := rfl
@[simp] theorem raiseEvent_ev (e : Event) : (raiseEvent e s).ev = s.ev ++ [e] := rfl
@[simp] theorem raiseEvent_unwritten (e : Event) : (raiseEvent e s).unwritten = s.unwritten := rfl
@[simp] theorem raiseEvent_draws (e : Event) : (raiseEvent e s).draws = s.draws := rfl
@[simp] theorem raiseEvent_env (e : Event) : (raiseEvent e s).env = s.env := rfl

/-! `markWritten` -/

@[simp] theorem markWritten_cfg (r : Reg) : (markWritten r s).cfg = s.cfg := rfl
@[simp] theorem markWritten_fifo (r : Reg) : (markWritten r s).fifo = s.fifo := rfl
@[simp] theorem markWritten_fcPause (r : Reg) : (markWritten r s).fcPause = s.fcPause := rfl
@[simp] theorem markWritten_activeFlag (r : Reg) : (markWritten r s).activeFlag = s.activeFlag := rfl
@[simp] theorem markWritten_seq (r : Reg) : (markWritten r s).seq = s.seq := rfl
@[simp] theorem markWritten_pulsing (r : Reg) : (markWritten r s).pulsing = s.pulsing := rfl
@[simp] theorem markWritten_regs (r : Reg) : (markWritten r s).regs = s.regs := rfl
@[simp] theorem markWritten_activeProf (r : Reg) : (markWritten r s).activeProf = s.activeProf := rfl
@[simp] theorem markWritten_bus (r : Reg) : (markWritten r s).bus = s.bus := rfl
@[simp] theorem markWritten_busy (r : Reg) : (markWritten r s).busy = s.busy := rfl
@[simp] theorem markWritten_ovfSticky (r : Reg) : (markWritten r s).ovfSticky = s.ovfSticky := rfl
@[simp] theorem markWritten_udfSticky (r : Reg) : (markWritten r s).udfSticky = s.udfSticky := rfl
@[simp] theorem markWritten_udfWait (r : Reg) : (markWritten r s).udfWait = s.udfWait := rfl
@[simp] theorem markWritten_out (r : Reg) : (markWritten r s).out = s.out := rfl
@[simp] theorem markWritten_target (r : Reg) : (markWritten r s).target = s.target := rfl
@[simp] theorem markWritten_ev (r : Reg) : (markWritten r s).ev = s.ev := rfl
@[simp] theorem markWritten_unwritten (r : Reg) : (markWritten r s).unwritten = s.unwritten.filter (fun x => x != r) := rfl
@[simp] theorem markWritten_draws (r : Reg) : (markWritten r s).draws = s.draws := rfl
@[simp] theorem markWritten_env (r : Reg) : (markWritten r s).env = s.env := rfl

/-! `setCmd` -/

@[simp] theorem setCmd_cfg (c : Byte) : (setCmd c s).cfg = s.cfg := rfl
@[simp] theorem setCmd_fifo (c : Byte) : (setCmd c s).fifo = s.fifo := rfl
@[simp] theorem setCmd_fcPause (c : Byte) : (setCmd c s).fcPause = s.fcPause := rfl
@[simp] theorem setCmd_activeFlag (c : Byte) : (setCmd c s).activeFlag = s.activeFlag := rfl
@[simp] theorem setCmd_seq (c : Byte) : (setCmd c s).seq = s.seq := rfl
@[simp] theorem setCmd_pulsing (c : Byte) : (setCmd c s).pulsing = s.pulsing := rfl
@[simp] theorem setCmd_regs (c : Byte) : (setCmd c s).regs = { s.regs with cmd := c } := rfl
@[simp] theorem setCmd_activeProf (c : Byte) : (setCmd c s).activeProf = s.activeProf := rfl
@[simp] theorem setCmd_bus (c : Byte) : (setCmd c s).bus = s.bus := rfl
@[simp] theorem setCmd_busy (c : Byte) : (setCmd c s).busy = s.busy := rfl
@[simp] theorem setCmd_ovfSticky (c : Byte) : (setCmd c s).ovfSticky = s.ovfSticky := rfl
@[simp] theorem setCmd_udfSticky (c : Byte) : (setCmd c s).udfSticky = s.udfSticky := rfl
@[simp] theorem setCmd_udfWait (c : Byte) : (setCmd c s).udfWait = s.udfWait := rfl
@[simp] theorem setCmd_out (c : Byte) : (setCmd c s).out = s.out := rfl
@[simp] theorem setCmd_target (c : Byte) : (setCmd c s).target = s.target := rfl
@[simp] theorem setCmd_ev (c : Byte) : (setCmd c s).ev = s.ev := rfl
@[simp] theorem setCmd_unwritten (c : Byte) : (setCmd c s).unwritten = s.unwritten.filter (fun x => x != .cmd) := rfl
@[simp] theorem setCmd_draws (c : Byte) : (setCmd c s).draws = s.draws := rfl
@[simp] theorem setCmd_env (c : Byte) : (setCmd c s).env = s.env := rfl

/-! `setCursor` -/

@[simp] theorem setCursor_cfg (a : Addr) : (setCursor a s).cfg = s.cfg := rfl
@[simp] theorem setCursor_fifo (a : Addr) : (setCursor a s).fifo = s.fifo := rfl
@[simp] theorem setCursor_fcPause (a : Addr) : (setCursor a s).fcPause = s.fcPause := rfl
@[simp] theorem setCursor_activeFlag (a : Addr) : (setCursor a s).activeFlag = s.activeFlag := rfl
@[simp] theorem setCursor_seq (a : Addr) : (setCursor a s).seq = s.seq := rfl
@[simp] theorem setCursor_pulsing (a : Addr) : (setCursor a s).pulsing = s.pulsing := rfl
@[simp] theorem setCursor_regs (a : Addr) : (setCursor a s).regs = { s.regs with cursor := a } := rfl
@[simp] theorem setCursor_activeProf (a : Addr) : (setCursor a s).activeProf = s.activeProf := rfl
@[simp] theorem setCursor_bus (a : Addr) : (setCursor a s).bus = s.bus := rfl
@[simp] theorem setCursor_busy (a : Addr) : (setCursor a s).busy = s.busy := rfl
@[simp] theorem setCursor_ovfSticky (a : Addr) : (setCursor a s).ovfSticky = s.ovfSticky := rfl
@[simp] theorem setCursor_udfSticky (a : Addr) : (setCursor a s).udfSticky = s.udfSticky := rfl
@[simp] theorem setCursor_udfWait (a : Addr) : (setCursor a s).udfWait = s.udfWait := rfl
@[simp] theorem setCursor_out (a : Addr) : (setCursor a s).out = s.out := rfl
@[simp] theorem setCursor_target (a : Addr) : (setCursor a s).target = s.target := rfl
@[simp] theorem setCursor_ev (a : Addr) : (setCursor a s).ev = s.ev := rfl
@[simp] theorem setCursor_unwritten (a : Addr) : (setCursor a s).unwritten = s.unwritten.filter (fun x => x != .cursor) := rfl
@[simp] theorem setCursor_draws (a : Addr) : (setCursor a s).draws = s.draws := rfl
@[simp] theorem setCursor_env (a : Addr) : (setCursor a s).env = s.env := rfl

/-! `setCHi` -/

@[simp] theorem setCHi_cfg (c : Byte) : (setCHi c s).cfg = s.cfg := rfl
@[simp] theorem setCHi_fifo (c : Byte) : (setCHi c s).fifo = s.fifo := rfl
@[simp] theorem setCHi_fcPause (c : Byte) : (setCHi c s).fcPause = s.fcPause := rfl
@[simp] theorem setCHi_activeFlag (c : Byte) : (setCHi c s).activeFlag = s.activeFlag := rfl
@[simp] theorem setCHi_seq (c : Byte) : (setCHi c s).seq = s.seq := rfl
@[simp] theorem setCHi_pulsing (c : Byte) : (setCHi c s).pulsing = s.pulsing := rfl
@[simp] theorem setCHi_regs (c : Byte) : (setCHi c s).regs = { s.regs with cHi := c } := rfl
@[simp] theorem setCHi_activeProf (c : Byte) : (setCHi c s).activeProf = s.activeProf := rfl
@[simp] theorem setCHi_bus (c : Byte) : (setCHi c s).bus = s.bus := rfl
@[simp] theorem setCHi_busy (c : Byte) : (setCHi c s).busy = s.busy := rfl
@[simp] theorem setCHi_ovfSticky (c : Byte) : (setCHi c s).ovfSticky = s.ovfSticky := rfl
@[simp] theorem setCHi_udfSticky (c : Byte) : (setCHi c s).udfSticky = s.udfSticky := rfl
@[simp] theorem setCHi_udfWait (c : Byte) : (setCHi c s).udfWait = s.udfWait := rfl
@[simp] theorem setCHi_out (c : Byte) : (setCHi c s).out = s.out := rfl
@[simp] theorem setCHi_target (c : Byte) : (setCHi c s).target = s.target := rfl
@[simp] theorem setCHi_ev (c : Byte) : (setCHi c s).ev = s.ev := rfl
@[simp] theorem setCHi_unwritten (c : Byte) : (setCHi c s).unwritten = s.unwritten.filter (fun x => x != .cHi) := rfl
@[simp] theorem setCHi_draws (c : Byte) : (setCHi c s).draws = s.draws := rfl
@[simp] theorem setCHi_env (c : Byte) : (setCHi c s).env = s.env := rfl

/-! `setCLo` -/

@[simp] theorem setCLo_cfg (c : Byte) : (setCLo c s).cfg = s.cfg := rfl
@[simp] theorem setCLo_fifo (c : Byte) : (setCLo c s).fifo = s.fifo := rfl
@[simp] theorem setCLo_fcPause (c : Byte) : (setCLo c s).fcPause = s.fcPause := rfl
@[simp] theorem setCLo_activeFlag (c : Byte) : (setCLo c s).activeFlag = s.activeFlag := rfl
@[simp] theorem setCLo_seq (c : Byte) : (setCLo c s).seq = s.seq := rfl
@[simp] theorem setCLo_pulsing (c : Byte) : (setCLo c s).pulsing = s.pulsing := rfl
@[simp] theorem setCLo_regs (c : Byte) : (setCLo c s).regs = { s.regs with cLo := c } := rfl
@[simp] theorem setCLo_activeProf (c : Byte) : (setCLo c s).activeProf = s.activeProf := rfl
@[simp] theorem setCLo_bus (c : Byte) : (setCLo c s).bus = s.bus := rfl
@[simp] theorem setCLo_busy (c : Byte) : (setCLo c s).busy = s.busy := rfl
@[simp] theorem setCLo_ovfSticky (c : Byte) : (setCLo c s).ovfSticky = s.ovfSticky := rfl
@[simp] theorem setCLo_udfSticky (c : Byte) : (setCLo c s).udfSticky = s.udfSticky := rfl
@[simp] theorem setCLo_udfWait (c : Byte) : (setCLo c s).udfWait = s.udfWait := rfl
@[simp] theorem setCLo_out (c : Byte) : (setCLo c s).out = s.out := rfl
@[simp] theorem setCLo_target (c : Byte) : (setCLo c s).target = s.target := rfl
@[simp] theorem setCLo_ev (c : Byte) : (setCLo c s).ev = s.ev := rfl
@[simp] theorem setCLo_unwritten (c : Byte) : (setCLo c s).unwritten = s.unwritten.filter (fun x => x != .cLo) := rfl
@[simp] theorem setCLo_draws (c : Byte) : (setCLo c s).draws = s.draws := rfl
@[simp] theorem setCLo_env (c : Byte) : (setCLo c s).env = s.env := rfl

/-! `setWdata` -/

@[simp] theorem setWdata_cfg (d : Byte) : (setWdata d s).cfg = s.cfg := rfl
@[simp] theorem setWdata_fifo (d : Byte) : (setWdata d s).fifo = s.fifo := rfl
@[simp] theorem setWdata_fcPause (d : Byte) : (setWdata d s).fcPause = s.fcPause := rfl
@[simp] theorem setWdata_activeFlag (d : Byte) : (setWdata d s).activeFlag = s.activeFlag := rfl
@[simp] theorem setWdata_seq (d : Byte) : (setWdata d s).seq = s.seq := rfl
@[simp] theorem setWdata_pulsing (d : Byte) : (setWdata d s).pulsing = s.pulsing := rfl
@[simp] theorem setWdata_regs (d : Byte) : (setWdata d s).regs = { s.regs with wdata := d } := rfl
@[simp] theorem setWdata_activeProf (d : Byte) : (setWdata d s).activeProf = s.activeProf := rfl
@[simp] theorem setWdata_bus (d : Byte) : (setWdata d s).bus = s.bus := rfl
@[simp] theorem setWdata_busy (d : Byte) : (setWdata d s).busy = s.busy := rfl
@[simp] theorem setWdata_ovfSticky (d : Byte) : (setWdata d s).ovfSticky = s.ovfSticky := rfl
@[simp] theorem setWdata_udfSticky (d : Byte) : (setWdata d s).udfSticky = s.udfSticky := rfl
@[simp] theorem setWdata_udfWait (d : Byte) : (setWdata d s).udfWait = s.udfWait := rfl
@[simp] theorem setWdata_out (d : Byte) : (setWdata d s).out = s.out := rfl
@[simp] theorem setWdata_target (d : Byte) : (setWdata d s).target = s.target := rfl
@[simp] theorem setWdata_ev (d : Byte) : (setWdata d s).ev = s.ev := rfl
@[simp] theorem setWdata_unwritten (d : Byte) : (setWdata d s).unwritten = s.unwritten.filter (fun x => x != .wdata) := rfl
@[simp] theorem setWdata_draws (d : Byte) : (setWdata d s).draws = s.draws := rfl
@[simp] theorem setWdata_env (d : Byte) : (setWdata d s).env = s.env := rfl

/-! `setRdata` -/

@[simp] theorem setRdata_cfg (d : Byte) : (setRdata d s).cfg = s.cfg := rfl
@[simp] theorem setRdata_fifo (d : Byte) : (setRdata d s).fifo = s.fifo := rfl
@[simp] theorem setRdata_fcPause (d : Byte) : (setRdata d s).fcPause = s.fcPause := rfl
@[simp] theorem setRdata_activeFlag (d : Byte) : (setRdata d s).activeFlag = s.activeFlag := rfl
@[simp] theorem setRdata_seq (d : Byte) : (setRdata d s).seq = s.seq := rfl
@[simp] theorem setRdata_pulsing (d : Byte) : (setRdata d s).pulsing = s.pulsing := rfl
@[simp] theorem setRdata_regs (d : Byte) : (setRdata d s).regs = { s.regs with rdata := d } := rfl
@[simp] theorem setRdata_activeProf (d : Byte) : (setRdata d s).activeProf = s.activeProf := rfl
@[simp] theorem setRdata_bus (d : Byte) : (setRdata d s).bus = s.bus := rfl
@[simp] theorem setRdata_busy (d : Byte) : (setRdata d s).busy = s.busy := rfl
@[simp] theorem setRdata_ovfSticky (d : Byte) : (setRdata d s).ovfSticky = s.ovfSticky := rfl
@[simp] theorem setRdata_udfSticky (d : Byte) : (setRdata d s).udfSticky = s.udfSticky := rfl
@[simp] theorem setRdata_udfWait (d : Byte) : (setRdata d s).udfWait = s.udfWait := rfl
@[simp] theorem setRdata_out (d : Byte) : (setRdata d s).out = s.out := rfl
@[simp] theorem setRdata_target (d : Byte) : (setRdata d s).target = s.target := rfl
@[simp] theorem setRdata_ev (d : Byte) : (setRdata d s).ev = s.ev := rfl
@[simp] theorem setRdata_unwritten (d : Byte) : (setRdata d s).unwritten = s.unwritten.filter (fun x => x != .rdata) := rfl
@[simp] theorem setRdata_draws (d : Byte) : (setRdata d s).draws = s.draws := rfl
@[simp] theorem setRdata_env (d : Byte) : (setRdata d s).env = s.env := rfl

/-! `setAbortOp` -/

@[simp] theorem setAbortOp_cfg (op : Op) : (setAbortOp op s).cfg = s.cfg := rfl
@[simp] theorem setAbortOp_fifo (op : Op) : (setAbortOp op s).fifo = s.fifo := rfl
@[simp] theorem setAbortOp_fcPause (op : Op) : (setAbortOp op s).fcPause = s.fcPause := rfl
@[simp] theorem setAbortOp_activeFlag (op : Op) : (setAbortOp op s).activeFlag = s.activeFlag := rfl
@[simp] theorem setAbortOp_seq (op : Op) : (setAbortOp op s).seq = s.seq := rfl
@[simp] theorem setAbortOp_pulsing (op : Op) : (setAbortOp op s).pulsing = s.pulsing := rfl
@[simp] theorem setAbortOp_regs (op : Op) : (setAbortOp op s).regs = { s.regs with abortOp := op } := rfl
@[simp] theorem setAbortOp_activeProf (op : Op) : (setAbortOp op s).activeProf = s.activeProf := rfl
@[simp] theorem setAbortOp_bus (op : Op) : (setAbortOp op s).bus = s.bus := rfl
@[simp] theorem setAbortOp_busy (op : Op) : (setAbortOp op s).busy = s.busy := rfl
@[simp] theorem setAbortOp_ovfSticky (op : Op) : (setAbortOp op s).ovfSticky = s.ovfSticky := rfl
@[simp] theorem setAbortOp_udfSticky (op : Op) : (setAbortOp op s).udfSticky = s.udfSticky := rfl
@[simp] theorem setAbortOp_udfWait (op : Op) : (setAbortOp op s).udfWait = s.udfWait := rfl
@[simp] theorem setAbortOp_out (op : Op) : (setAbortOp op s).out = s.out := rfl
@[simp] theorem setAbortOp_target (op : Op) : (setAbortOp op s).target = s.target := rfl
@[simp] theorem setAbortOp_ev (op : Op) : (setAbortOp op s).ev = s.ev := rfl
@[simp] theorem setAbortOp_unwritten (op : Op) : (setAbortOp op s).unwritten = s.unwritten.filter (fun x => x != .abortOp) := rfl
@[simp] theorem setAbortOp_draws (op : Op) : (setAbortOp op s).draws = s.draws := rfl
@[simp] theorem setAbortOp_env (op : Op) : (setAbortOp op s).env = s.env := rfl

/-! `setAddr` -/

@[simp] theorem setAddr_cfg (a : Addr) : (setAddr a s).cfg = s.cfg := rfl
@[simp] theorem setAddr_fifo (a : Addr) : (setAddr a s).fifo = s.fifo := rfl
@[simp] theorem setAddr_fcPause (a : Addr) : (setAddr a s).fcPause = s.fcPause := rfl
@[simp] theorem setAddr_activeFlag (a : Addr) : (setAddr a s).activeFlag = s.activeFlag := rfl
@[simp] theorem setAddr_seq (a : Addr) : (setAddr a s).seq = s.seq := rfl
@[simp] theorem setAddr_pulsing (a : Addr) : (setAddr a s).pulsing = s.pulsing := rfl
@[simp] theorem setAddr_regs (a : Addr) : (setAddr a s).regs = s.regs := rfl
@[simp] theorem setAddr_activeProf (a : Addr) : (setAddr a s).activeProf = s.activeProf := rfl
@[simp] theorem setAddr_bus (a : Addr) : (setAddr a s).bus = { s.bus with addr := a } := rfl
@[simp] theorem setAddr_busy (a : Addr) : (setAddr a s).busy = s.busy := rfl
@[simp] theorem setAddr_ovfSticky (a : Addr) : (setAddr a s).ovfSticky = s.ovfSticky := rfl
@[simp] theorem setAddr_udfSticky (a : Addr) : (setAddr a s).udfSticky = s.udfSticky := rfl
@[simp] theorem setAddr_udfWait (a : Addr) : (setAddr a s).udfWait = s.udfWait := rfl
@[simp] theorem setAddr_out (a : Addr) : (setAddr a s).out = s.out := rfl
@[simp] theorem setAddr_target (a : Addr) : (setAddr a s).target = s.target := rfl
@[simp] theorem setAddr_ev (a : Addr) : (setAddr a s).ev = s.ev := rfl
@[simp] theorem setAddr_unwritten (a : Addr) : (setAddr a s).unwritten = s.unwritten := rfl
@[simp] theorem setAddr_draws (a : Addr) : (setAddr a s).draws = s.draws := rfl
@[simp] theorem setAddr_env (a : Addr) : (setAddr a s).env = s.env := rfl

/-! `setDir` -/

@[simp] theorem setDir_cfg (d : Dir) : (setDir d s).cfg = s.cfg := rfl
@[simp] theorem setDir_fifo (d : Dir) : (setDir d s).fifo = s.fifo := rfl
@[simp] theorem setDir_fcPause (d : Dir) : (setDir d s).fcPause = s.fcPause := rfl
@[simp] theorem setDir_activeFlag (d : Dir) : (setDir d s).activeFlag = s.activeFlag := rfl
@[simp] theorem setDir_seq (d : Dir) : (setDir d s).seq = s.seq := rfl
@[simp] theorem setDir_pulsing (d : Dir) : (setDir d s).pulsing = s.pulsing := rfl
@[simp] theorem setDir_regs (d : Dir) : (setDir d s).regs = s.regs := rfl
@[simp] theorem setDir_activeProf (d : Dir) : (setDir d s).activeProf = s.activeProf := rfl
@[simp] theorem setDir_bus (d : Dir) : (setDir d s).bus = { s.bus with dir := d } := rfl
@[simp] theorem setDir_busy (d : Dir) : (setDir d s).busy = s.busy := rfl
@[simp] theorem setDir_ovfSticky (d : Dir) : (setDir d s).ovfSticky = s.ovfSticky := rfl
@[simp] theorem setDir_udfSticky (d : Dir) : (setDir d s).udfSticky = s.udfSticky := rfl
@[simp] theorem setDir_udfWait (d : Dir) : (setDir d s).udfWait = s.udfWait := rfl
@[simp] theorem setDir_out (d : Dir) : (setDir d s).out = s.out := rfl
@[simp] theorem setDir_target (d : Dir) : (setDir d s).target = s.target := rfl
@[simp] theorem setDir_ev (d : Dir) : (setDir d s).ev = s.ev := rfl
@[simp] theorem setDir_unwritten (d : Dir) : (setDir d s).unwritten = s.unwritten := rfl
@[simp] theorem setDir_draws (d : Dir) : (setDir d s).draws = s.draws := rfl
@[simp] theorem setDir_env (d : Dir) : (setDir d s).env = s.env := rfl

/-! `setDout` -/

@[simp] theorem setDout_cfg (b : Byte) : (setDout b s).cfg = s.cfg := rfl
@[simp] theorem setDout_fifo (b : Byte) : (setDout b s).fifo = s.fifo := rfl
@[simp] theorem setDout_fcPause (b : Byte) : (setDout b s).fcPause = s.fcPause := rfl
@[simp] theorem setDout_activeFlag (b : Byte) : (setDout b s).activeFlag = s.activeFlag := rfl
@[simp] theorem setDout_seq (b : Byte) : (setDout b s).seq = s.seq := rfl
@[simp] theorem setDout_pulsing (b : Byte) : (setDout b s).pulsing = s.pulsing := rfl
@[simp] theorem setDout_regs (b : Byte) : (setDout b s).regs = s.regs := rfl
@[simp] theorem setDout_activeProf (b : Byte) : (setDout b s).activeProf = s.activeProf := rfl
@[simp] theorem setDout_bus (b : Byte) : (setDout b s).bus = { s.bus with dout := b } := rfl
@[simp] theorem setDout_busy (b : Byte) : (setDout b s).busy = s.busy := rfl
@[simp] theorem setDout_ovfSticky (b : Byte) : (setDout b s).ovfSticky = s.ovfSticky := rfl
@[simp] theorem setDout_udfSticky (b : Byte) : (setDout b s).udfSticky = s.udfSticky := rfl
@[simp] theorem setDout_udfWait (b : Byte) : (setDout b s).udfWait = s.udfWait := rfl
@[simp] theorem setDout_out (b : Byte) : (setDout b s).out = s.out := rfl
@[simp] theorem setDout_target (b : Byte) : (setDout b s).target = s.target := rfl
@[simp] theorem setDout_ev (b : Byte) : (setDout b s).ev = s.ev := rfl
@[simp] theorem setDout_unwritten (b : Byte) : (setDout b s).unwritten = s.unwritten.filter (fun x => x != .dout) := rfl
@[simp] theorem setDout_draws (b : Byte) : (setDout b s).draws = s.draws := rfl
@[simp] theorem setDout_env (b : Byte) : (setDout b s).env = s.env := rfl

/-! `setCtl` -/

@[simp] theorem setCtl_cfg (c : Ctl) : (setCtl c s).cfg = s.cfg := rfl
@[simp] theorem setCtl_fifo (c : Ctl) : (setCtl c s).fifo = s.fifo := rfl
@[simp] theorem setCtl_fcPause (c : Ctl) : (setCtl c s).fcPause = s.fcPause := rfl
@[simp] theorem setCtl_activeFlag (c : Ctl) : (setCtl c s).activeFlag = s.activeFlag := rfl
@[simp] theorem setCtl_seq (c : Ctl) : (setCtl c s).seq = s.seq := rfl
@[simp] theorem setCtl_pulsing (c : Ctl) : (setCtl c s).pulsing = s.pulsing := rfl
@[simp] theorem setCtl_regs (c : Ctl) : (setCtl c s).regs = s.regs := rfl
@[simp] theorem setCtl_activeProf (c : Ctl) : (setCtl c s).activeProf = s.activeProf := rfl
@[simp] theorem setCtl_bus (c : Ctl) : (setCtl c s).bus = { s.bus with ctl := c } := rfl
@[simp] theorem setCtl_busy (c : Ctl) : (setCtl c s).busy = s.busy := rfl
@[simp] theorem setCtl_ovfSticky (c : Ctl) : (setCtl c s).ovfSticky = s.ovfSticky := rfl
@[simp] theorem setCtl_udfSticky (c : Ctl) : (setCtl c s).udfSticky = s.udfSticky := rfl
@[simp] theorem setCtl_udfWait (c : Ctl) : (setCtl c s).udfWait = s.udfWait := rfl
@[simp] theorem setCtl_out (c : Ctl) : (setCtl c s).out = s.out := rfl
@[simp] theorem setCtl_target (c : Ctl) : (setCtl c s).target = s.target := rfl
@[simp] theorem setCtl_ev (c : Ctl) : (setCtl c s).ev = s.ev := rfl
@[simp] theorem setCtl_unwritten (c : Ctl) : (setCtl c s).unwritten = s.unwritten := rfl
@[simp] theorem setCtl_draws (c : Ctl) : (setCtl c s).draws = s.draws := rfl
@[simp] theorem setCtl_env (c : Ctl) : (setCtl c s).env = s.env := rfl

/-! `fcUpdate` -/

@[simp] theorem fcUpdate_cfg : (fcUpdate s).cfg = s.cfg := rfl
@[simp] theorem fcUpdate_fifo : (fcUpdate s).fifo = s.fifo := rfl
@[simp] theorem fcUpdate_fcPause : (fcUpdate s).fcPause = fcNext s.cfg.fcPolicy (occ s) s.fcPause := rfl
@[simp] theorem fcUpdate_activeFlag : (fcUpdate s).activeFlag = s.activeFlag := rfl
@[simp] theorem fcUpdate_seq : (fcUpdate s).seq = s.seq := rfl
@[simp] theorem fcUpdate_pulsing : (fcUpdate s).pulsing = s.pulsing := rfl
@[simp] theorem fcUpdate_regs : (fcUpdate s).regs = s.regs := rfl
@[simp] theorem fcUpdate_activeProf : (fcUpdate s).activeProf = s.activeProf := rfl
@[simp] theorem fcUpdate_bus : (fcUpdate s).bus = s.bus := rfl
@[simp] theorem fcUpdate_busy : (fcUpdate s).busy = s.busy := rfl
@[simp] theorem fcUpdate_ovfSticky : (fcUpdate s).ovfSticky = s.ovfSticky := rfl
@[simp] theorem fcUpdate_udfSticky : (fcUpdate s).udfSticky = s.udfSticky := rfl
@[simp] theorem fcUpdate_udfWait : (fcUpdate s).udfWait = s.udfWait := rfl
@[simp] theorem fcUpdate_out : (fcUpdate s).out = s.out := rfl
@[simp] theorem fcUpdate_target : (fcUpdate s).target = s.target := rfl
@[simp] theorem fcUpdate_ev : (fcUpdate s).ev = s.ev := rfl
@[simp] theorem fcUpdate_unwritten : (fcUpdate s).unwritten = s.unwritten := rfl
@[simp] theorem fcUpdate_draws : (fcUpdate s).draws = s.draws := rfl
@[simp] theorem fcUpdate_env : (fcUpdate s).env = s.env := rfl

/-! `takeTurn` -/

@[simp] theorem takeTurn_cfg : (takeTurn s).cfg = s.cfg := rfl
@[simp] theorem takeTurn_fifo : (takeTurn s).fifo = s.fifo := rfl
@[simp] theorem takeTurn_fcPause : (takeTurn s).fcPause = s.fcPause := rfl
@[simp] theorem takeTurn_activeFlag : (takeTurn s).activeFlag = s.activeFlag := rfl
@[simp] theorem takeTurn_seq : (takeTurn s).seq = s.seq := rfl
@[simp] theorem takeTurn_pulsing : (takeTurn s).pulsing = s.pulsing := rfl
@[simp] theorem takeTurn_regs : (takeTurn s).regs = s.regs := rfl
@[simp] theorem takeTurn_activeProf : (takeTurn s).activeProf = s.activeProf := rfl
@[simp] theorem takeTurn_bus : (takeTurn s).bus = s.bus := rfl
@[simp] theorem takeTurn_busy : (takeTurn s).busy = s.busy := rfl
@[simp] theorem takeTurn_ovfSticky : (takeTurn s).ovfSticky = s.ovfSticky := rfl
@[simp] theorem takeTurn_udfSticky : (takeTurn s).udfSticky = s.udfSticky := rfl
@[simp] theorem takeTurn_udfWait : (takeTurn s).udfWait = s.udfWait := rfl
@[simp] theorem takeTurn_out : (takeTurn s).out = s.out := rfl
@[simp] theorem takeTurn_target : (takeTurn s).target = s.target := rfl
@[simp] theorem takeTurn_ev : (takeTurn s).ev = s.ev := rfl
@[simp] theorem takeTurn_unwritten : (takeTurn s).unwritten = s.unwritten := rfl
@[simp] theorem takeTurn_draws : (takeTurn s).draws = s.draws := rfl
@[simp] theorem takeTurn_env : (takeTurn s).env = { s.env with turns := s.env.turns.tail } := rfl

/-! What is computed from fields that no update above writes. -/

@[simp] theorem occ_goto (q : Seq) : occ (goto q s) = occ s := rfl
@[simp] theorem slot_goto (q : Seq) (i : Nat) : slot (goto q s) i = slot s i := rfl
@[simp] theorem oldest_goto (q : Seq) : oldest (goto q s) = oldest s := rfl
@[simp] theorem activeProfile_goto (q : Seq) : activeProfile (goto q s) = activeProfile s := rfl
@[simp] theorem cell_goto (q : Seq) (a' : Addr) : cell (goto q s) a' = cell s a' := rfl
@[simp] theorem occ_emit (bs : List Byte) : occ (emit bs s) = occ s := rfl
@[simp] theorem slot_emit (bs : List Byte) (i : Nat) : slot (emit bs s) i = slot s i := rfl
@[simp] theorem oldest_emit (bs : List Byte) : oldest (emit bs s) = oldest s := rfl
@[simp] theorem activeProfile_emit (bs : List Byte) : activeProfile (emit bs s) = activeProfile s := rfl
@[simp] theorem cell_emit (bs : List Byte) (a' : Addr) : cell (emit bs s) a' = cell s a' := rfl
@[simp] theorem occ_raiseEvent (e : Event) : occ (raiseEvent e s) = occ s := rfl
@[simp] theorem slot_raiseEvent (e : Event) (i : Nat) : slot (raiseEvent e s) i = slot s i := rfl
@[simp] theorem oldest_raiseEvent (e : Event) : oldest (raiseEvent e s) = oldest s := rfl
@[simp] theorem activeProfile_raiseEvent (e : Event) : activeProfile (raiseEvent e s) = activeProfile s := rfl
@[simp] theorem cell_raiseEvent (e : Event) (a' : Addr) : cell (raiseEvent e s) a' = cell s a' := rfl
@[simp] theorem occ_markWritten (r : Reg) : occ (markWritten r s) = occ s := rfl
@[simp] theorem slot_markWritten (r : Reg) (i : Nat) : slot (markWritten r s) i = slot s i := rfl
@[simp] theorem oldest_markWritten (r : Reg) : oldest (markWritten r s) = oldest s := rfl
@[simp] theorem activeProfile_markWritten (r : Reg) : activeProfile (markWritten r s) = activeProfile s := rfl
@[simp] theorem cell_markWritten (r : Reg) (a' : Addr) : cell (markWritten r s) a' = cell s a' := rfl
@[simp] theorem occ_setCmd (c : Byte) : occ (setCmd c s) = occ s := rfl
@[simp] theorem slot_setCmd (c : Byte) (i : Nat) : slot (setCmd c s) i = slot s i := rfl
@[simp] theorem oldest_setCmd (c : Byte) : oldest (setCmd c s) = oldest s := rfl
@[simp] theorem activeProfile_setCmd (c : Byte) : activeProfile (setCmd c s) = activeProfile s := rfl
@[simp] theorem cell_setCmd (c : Byte) (a' : Addr) : cell (setCmd c s) a' = cell s a' := rfl
@[simp] theorem occ_setCursor (a : Addr) : occ (setCursor a s) = occ s := rfl
@[simp] theorem slot_setCursor (a : Addr) (i : Nat) : slot (setCursor a s) i = slot s i := rfl
@[simp] theorem oldest_setCursor (a : Addr) : oldest (setCursor a s) = oldest s := rfl
@[simp] theorem activeProfile_setCursor (a : Addr) : activeProfile (setCursor a s) = activeProfile s := rfl
@[simp] theorem cell_setCursor (a : Addr) (a' : Addr) : cell (setCursor a s) a' = cell s a' := rfl
@[simp] theorem occ_setCHi (c : Byte) : occ (setCHi c s) = occ s := rfl
@[simp] theorem slot_setCHi (c : Byte) (i : Nat) : slot (setCHi c s) i = slot s i := rfl
@[simp] theorem oldest_setCHi (c : Byte) : oldest (setCHi c s) = oldest s := rfl
@[simp] theorem activeProfile_setCHi (c : Byte) : activeProfile (setCHi c s) = activeProfile s := rfl
@[simp] theorem cell_setCHi (c : Byte) (a' : Addr) : cell (setCHi c s) a' = cell s a' := rfl
@[simp] theorem occ_setCLo (c : Byte) : occ (setCLo c s) = occ s := rfl
@[simp] theorem slot_setCLo (c : Byte) (i : Nat) : slot (setCLo c s) i = slot s i := rfl
@[simp] theorem oldest_setCLo (c : Byte) : oldest (setCLo c s) = oldest s := rfl
@[simp] theorem activeProfile_setCLo (c : Byte) : activeProfile (setCLo c s) = activeProfile s := rfl
@[simp] theorem cell_setCLo (c : Byte) (a' : Addr) : cell (setCLo c s) a' = cell s a' := rfl
@[simp] theorem occ_setWdata (d : Byte) : occ (setWdata d s) = occ s := rfl
@[simp] theorem slot_setWdata (d : Byte) (i : Nat) : slot (setWdata d s) i = slot s i := rfl
@[simp] theorem oldest_setWdata (d : Byte) : oldest (setWdata d s) = oldest s := rfl
@[simp] theorem activeProfile_setWdata (d : Byte) : activeProfile (setWdata d s) = activeProfile s := rfl
@[simp] theorem cell_setWdata (d : Byte) (a' : Addr) : cell (setWdata d s) a' = cell s a' := rfl
@[simp] theorem occ_setRdata (d : Byte) : occ (setRdata d s) = occ s := rfl
@[simp] theorem slot_setRdata (d : Byte) (i : Nat) : slot (setRdata d s) i = slot s i := rfl
@[simp] theorem oldest_setRdata (d : Byte) : oldest (setRdata d s) = oldest s := rfl
@[simp] theorem activeProfile_setRdata (d : Byte) : activeProfile (setRdata d s) = activeProfile s := rfl
@[simp] theorem cell_setRdata (d : Byte) (a' : Addr) : cell (setRdata d s) a' = cell s a' := rfl
@[simp] theorem occ_setAbortOp (op : Op) : occ (setAbortOp op s) = occ s := rfl
@[simp] theorem slot_setAbortOp (op : Op) (i : Nat) : slot (setAbortOp op s) i = slot s i := rfl
@[simp] theorem oldest_setAbortOp (op : Op) : oldest (setAbortOp op s) = oldest s := rfl
@[simp] theorem activeProfile_setAbortOp (op : Op) : activeProfile (setAbortOp op s) = activeProfile s := rfl
@[simp] theorem cell_setAbortOp (op : Op) (a' : Addr) : cell (setAbortOp op s) a' = cell s a' := rfl
@[simp] theorem occ_setAddr (a : Addr) : occ (setAddr a s) = occ s := rfl
@[simp] theorem slot_setAddr (a : Addr) (i : Nat) : slot (setAddr a s) i = slot s i := rfl
@[simp] theorem oldest_setAddr (a : Addr) : oldest (setAddr a s) = oldest s := rfl
@[simp] theorem activeProfile_setAddr (a : Addr) : activeProfile (setAddr a s) = activeProfile s := rfl
@[simp] theorem cell_setAddr (a : Addr) (a' : Addr) : cell (setAddr a s) a' = cell s a' := rfl
@[simp] theorem occ_setDir (d : Dir) : occ (setDir d s) = occ s := rfl
@[simp] theorem slot_setDir (d : Dir) (i : Nat) : slot (setDir d s) i = slot s i := rfl
@[simp] theorem oldest_setDir (d : Dir) : oldest (setDir d s) = oldest s := rfl
@[simp] theorem activeProfile_setDir (d : Dir) : activeProfile (setDir d s) = activeProfile s := rfl
@[simp] theorem cell_setDir (d : Dir) (a' : Addr) : cell (setDir d s) a' = cell s a' := rfl
@[simp] theorem occ_setDout (b : Byte) : occ (setDout b s) = occ s := rfl
@[simp] theorem slot_setDout (b : Byte) (i : Nat) : slot (setDout b s) i = slot s i := rfl
@[simp] theorem oldest_setDout (b : Byte) : oldest (setDout b s) = oldest s := rfl
@[simp] theorem activeProfile_setDout (b : Byte) : activeProfile (setDout b s) = activeProfile s := rfl
@[simp] theorem cell_setDout (b : Byte) (a' : Addr) : cell (setDout b s) a' = cell s a' := rfl
@[simp] theorem occ_setCtl (c : Ctl) : occ (setCtl c s) = occ s := rfl
@[simp] theorem slot_setCtl (c : Ctl) (i : Nat) : slot (setCtl c s) i = slot s i := rfl
@[simp] theorem oldest_setCtl (c : Ctl) : oldest (setCtl c s) = oldest s := rfl
@[simp] theorem activeProfile_setCtl (c : Ctl) : activeProfile (setCtl c s) = activeProfile s := rfl
@[simp] theorem cell_setCtl (c : Ctl) (a' : Addr) : cell (setCtl c s) a' = cell s a' := rfl
@[simp] theorem occ_fcUpdate : occ (fcUpdate s) = occ s := rfl
@[simp] theorem slot_fcUpdate (i : Nat) : slot (fcUpdate s) i = slot s i := rfl
@[simp] theorem oldest_fcUpdate : oldest (fcUpdate s) = oldest s := rfl
@[simp] theorem activeProfile_fcUpdate : activeProfile (fcUpdate s) = activeProfile s := rfl
@[simp] theorem cell_fcUpdate (a' : Addr) : cell (fcUpdate s) a' = cell s a' := rfl
@[simp] theorem occ_takeTurn : occ (takeTurn s) = occ s := rfl
@[simp] theorem slot_takeTurn (i : Nat) : slot (takeTurn s) i = slot s i := rfl
@[simp] theorem oldest_takeTurn : oldest (takeTurn s) = oldest s := rfl
@[simp] theorem activeProfile_takeTurn : activeProfile (takeTurn s) = activeProfile s := rfl
@[simp] theorem cell_takeTurn (a' : Addr) : cell (takeTurn s) a' = cell s a' := rfl

end Sys2Proof.Machine
end

