-- ==== Sys2Proof/Laws/Fifo.lean ====
section
/-! SUPPORT. The laws of the FIFO operations: the occupancy as arithmetic on natural numbers, what each operation does
to it, and what the receive step, the pops and the clear write. -/

namespace Sys2Proof.Machine

open Sys2Proof

variable {s t : State}

/-! ## The occupancy -/

/-- For indices in range the occupancy is a remainder of natural numbers. -/
theorem occ_eq (hh : s.fifo.head < s.cfg.capacity) :
    occ s = (s.fifo.tail + 1 + (s.cfg.capacity - s.fifo.head)) % s.cfg.capacity := by
  have e : ((s.fifo.tail : Int) - s.fifo.head + 1) % (s.cfg.capacity : Int)
      = (((s.fifo.tail + 1 + (s.cfg.capacity - s.fifo.head) : Nat) : Int)) % (s.cfg.capacity : Int) := by
    rw [Int.emod_eq_emod_iff_emod_sub_eq_zero]
    refine Int.emod_eq_zero_of_dvd ⟨-1, ?_⟩
    push_cast [Nat.cast_sub hh.le]
    ring
  rw [occ, e]
  exact Int.toNat_natCast _

/-- The three shapes of the stored run of bytes: not wrapped, empty, wrapped around the end of the ring. -/
theorem occ_cases (hh : s.fifo.head < s.cfg.capacity) (ht : s.fifo.tail < s.cfg.capacity) :
    (s.fifo.head ≤ s.fifo.tail ∧ s.fifo.tail - s.fifo.head + 1 < s.cfg.capacity ∧
        occ s = s.fifo.tail - s.fifo.head + 1) ∨
    ((s.fifo.head = s.fifo.tail + 1 ∨ s.fifo.head = 0 ∧ s.fifo.tail + 1 = s.cfg.capacity) ∧ occ s = 0) ∨
    (s.fifo.tail + 1 < s.fifo.head ∧ occ s = s.fifo.tail + 1 + s.cfg.capacity - s.fifo.head) := by
  rw [occ_eq hh]
  rcases Nat.lt_trichotomy (s.fifo.tail + 1) s.fifo.head with h | h | h
  · refine .inr (.inr ⟨h, ?_⟩)
    rw [Nat.mod_eq_of_lt (by omega)]
    omega
  · refine .inr (.inl ⟨.inl h.symm, ?_⟩)
    rw [show s.fifo.tail + 1 + (s.cfg.capacity - s.fifo.head) = s.cfg.capacity by omega, Nat.mod_self]
  · have e : s.fifo.tail + 1 + (s.cfg.capacity - s.fifo.head)
        = (s.fifo.tail - s.fifo.head + 1) + s.cfg.capacity := by omega
    rw [e, Nat.add_mod_right]
    rcases Nat.lt_or_ge (s.fifo.tail - s.fifo.head + 1) s.cfg.capacity with h1 | h1
    · exact .inl ⟨by omega, h1, Nat.mod_eq_of_lt h1⟩
    · refine .inr (.inl ⟨.inr (by omega), ?_⟩)
      rw [show s.fifo.tail - s.fifo.head + 1 = s.cfg.capacity by omega, Nat.mod_self]

/-- The occupancy depends on the indices and the capacity only. -/
theorem occ_congr (hf : t.fifo.head = s.fifo.head) (ht : t.fifo.tail = s.fifo.tail)
    (hc : t.cfg.capacity = s.cfg.capacity) : occ t = occ s := by
  simp [occ, hf, ht, hc]

theorem occ_lt (h : 0 < s.cfg.capacity) : occ s < s.cfg.capacity := by
  have h0 : (0 : Int) < s.cfg.capacity := by exact_mod_cast h
  have h1 := Int.emod_lt_of_pos ((s.fifo.tail : Int) - s.fifo.head + 1) h0
  have h2 := Int.emod_nonneg ((s.fifo.tail : Int) - s.fifo.head + 1) h0.ne'
  unfold occ
  omega

/-- The successor index, without the remainder. -/
theorem succ_mod {i c : Nat} (h : i < c) : (i + 1) % c = if i + 1 = c then 0 else i + 1 := by
  split
  · next e => rw [e, Nat.mod_self]
  · exact Nat.mod_eq_of_lt (by omega)

/-! ## Push -/

theorem pushAccept_fifo (b : Byte) : (pushAccept b s).fifo =
    { s.fifo with
      tail := (s.fifo.tail + 1) % s.cfg.capacity
      slots := memSet .fifo s.fifo.slots ((s.fifo.tail + 1) % s.cfg.capacity) b } := rfl

/-- An accepted push grows the occupancy by one. -/
theorem occ_pushAccept (b : Byte) (hh : s.fifo.head < s.cfg.capacity) (ht : s.fifo.tail < s.cfg.capacity)
    (ho : occ s < s.cfg.capacity - 1) : occ (pushAccept b s) = occ s + 1 := by
  have h1 : (pushAccept b s).fifo.head < (pushAccept b s).cfg.capacity := hh
  have e1 := occ_eq h1
  have hc : (pushAccept b s).cfg.capacity = s.cfg.capacity := rfl
  have hhd : (pushAccept b s).fifo.head = s.fifo.head := rfl
  have htl : (pushAccept b s).fifo.tail = (s.fifo.tail + 1) % s.cfg.capacity := rfl
  rw [hc, hhd, htl] at e1
  rw [e1]
  rw [succ_mod ht]
  rcases occ_cases hh ht with ⟨ha, hb, e⟩ | ⟨ha, e⟩ | ⟨ha, e⟩
  · split
    · rw [Nat.mod_eq_of_lt (by omega)]
      omega
    · rw [show s.fifo.tail + 1 + 1 + (s.cfg.capacity - s.fifo.head)
          = (s.fifo.tail - s.fifo.head + 2) + s.cfg.capacity by omega, Nat.add_mod_right,
        Nat.mod_eq_of_lt (by omega)]
      omega
  · have e1 : (if s.fifo.tail + 1 = s.cfg.capacity then 0 else s.fifo.tail + 1) + 1
        + (s.cfg.capacity - s.fifo.head) = 1 + s.cfg.capacity := by split <;> omega
    rw [e1, Nat.add_mod_right, Nat.mod_eq_of_lt (by omega)]
    omega
  · rw [if_neg (by omega), Nat.mod_eq_of_lt (by omega)]
    omega

/-- The slot an accepted push writes is no stored one: the `k`-th stored byte stays. -/
theorem pushAccept_slot_ne (hh : s.fifo.head < s.cfg.capacity) (ht : s.fifo.tail < s.cfg.capacity)
    (ho : occ s < s.cfg.capacity - 1) {k : Nat} (hk : k < occ s) :
    (s.fifo.head + k) % s.cfg.capacity ≠ (s.fifo.tail + 1) % s.cfg.capacity := by
  rw [succ_mod ht]
  have hm : (s.fifo.head + k) % s.cfg.capacity =
      if s.fifo.head + k < s.cfg.capacity then s.fifo.head + k else s.fifo.head + k - s.cfg.capacity := by
    split
    · exact Nat.mod_eq_of_lt ‹_›
    · rw [Nat.mod_eq_sub_mod (by omega), Nat.mod_eq_of_lt (by omega)]
  rw [hm]
  rcases occ_cases hh ht with ⟨ha, hb, e⟩ | ⟨ha, e⟩ | ⟨ha, e⟩ <;> (try omega) <;> split <;> split <;> omega

/-- The slot an accepted push writes is the one after the last stored byte. -/
theorem pushAccept_slot_eq (hh : s.fifo.head < s.cfg.capacity) (ht : s.fifo.tail < s.cfg.capacity) :
    (s.fifo.head + occ s) % s.cfg.capacity = (s.fifo.tail + 1) % s.cfg.capacity := by
  rcases occ_cases hh ht with ⟨ha, hb, e⟩ | ⟨ha | ⟨ha, hb⟩, e⟩ | ⟨ha, e⟩
  · rw [e]
    congr 1
    omega
  · rw [e, ha, Nat.add_zero]
  · rw [e, ha, hb, Nat.mod_self, Nat.zero_add, Nat.zero_mod]
  · rw [e, show s.fifo.head + (s.fifo.tail + 1 + s.cfg.capacity - s.fifo.head)
      = s.fifo.tail + 1 + s.cfg.capacity by omega, Nat.add_mod_right]

/-! ## The framer and the receive step -/

/-- All the framer can do. -/
theorem framer_cases (s : State) :
    (framer s = s ∧ (s.activeFlag = true ∨ frameSeen (occ s) (oldest s) = false)) ∨
    (framer s = { s with activeFlag := true, ev := s.ev ++ [.flagRaised] } ∧ s.activeFlag = false ∧
      frameSeen (occ s) (oldest s) = true) := by
  unfold framer
  split
  · split
    · exact .inl ⟨rfl, .inl ‹_›⟩
    · exact .inr ⟨rfl, by simpa using ‹¬ s.activeFlag = true›, ‹_›⟩
  · exact .inl ⟨rfl, .inr (by simpa using ‹¬ frameSeen _ _ = true›)⟩

theorem frameSeen_iff {n : Nat} {b : Byte} : frameSeen n b = true ↔ 1 < n ∧ b = 0x24 := by
  simp [frameSeen]

/-- The framer never changes the FIFO. -/
@[simp] theorem framer_fifo (s : State) : (framer s).fifo = s.fifo := by
  rcases framer_cases s with ⟨e, -⟩ | ⟨e, -⟩ <;> rw [e]

@[simp] theorem framer_cfg (s : State) : (framer s).cfg = s.cfg := by
  rcases framer_cases s with ⟨e, -⟩ | ⟨e, -⟩ <;> rw [e]

@[simp] theorem framer_fcPause (s : State) : (framer s).fcPause = s.fcPause := by
  rcases framer_cases s with ⟨e, -⟩ | ⟨e, -⟩ <;> rw [e]

@[simp] theorem framer_ovfSticky (s : State) : (framer s).ovfSticky = s.ovfSticky := by
  rcases framer_cases s with ⟨e, -⟩ | ⟨e, -⟩ <;> rw [e]

/-- The framer raises the flag where it sees a frame, and never clears it. -/
theorem framer_activeFlag (s : State) :
    (framer s).activeFlag = (s.activeFlag || frameSeen (occ s) (oldest s)) := by
  rcases framer_cases s with ⟨e, h⟩ | ⟨e, h, h'⟩
  · rw [e]
    rcases h with h | h <;> simp [h]
  · rw [e]
    simp [h']

/-- The state in which the receive step runs the framer: pushed or rejected, with the flow signal updated. -/
def received (b : Byte) (s : State) : State :=
  fcUpdate (if occ s = s.cfg.capacity - 1 then pushReject b s else pushAccept b s)

theorem rx_eq (b : Byte) (s : State) : rx b s = framer (received b s) := rfl

/-- What the push and the flow update leave alone. -/
theorem received_rest (b : Byte) (s : State) :
    received b s =
      { s with
        fifo := { s.fifo with slots := (received b s).fifo.slots, tail := (received b s).fifo.tail }
        fcPause := (received b s).fcPause
        ovfSticky := (received b s).ovfSticky
        ev := (received b s).ev } := by
  unfold received
  split <;> rfl

/-- All the receive step can write. -/
theorem rx_rest (b : Byte) (s : State) :
    rx b s =
      { s with
        fifo := { s.fifo with slots := (rx b s).fifo.slots, tail := (rx b s).fifo.tail }
        fcPause := (rx b s).fcPause
        activeFlag := (rx b s).activeFlag
        ovfSticky := (rx b s).ovfSticky
        ev := (rx b s).ev } := by
  rw [rx_eq]
  have h := received_rest b s
  rcases framer_cases (received b s) with ⟨e, -⟩ | ⟨e, -⟩ <;> rw [e]
  · rw [congrArg State.activeFlag h]
    exact h
  · rw [h]

@[simp] theorem rx_cfg (b : Byte) : (rx b s).cfg = s.cfg := by rw [rx_rest]
@[simp] theorem rx_seq (b : Byte) : (rx b s).seq = s.seq := by rw [rx_rest]
@[simp] theorem rx_pulsing (b : Byte) : (rx b s).pulsing = s.pulsing := by rw [rx_rest]
@[simp] theorem rx_regs (b : Byte) : (rx b s).regs = s.regs := by rw [rx_rest]
@[simp] theorem rx_activeProf (b : Byte) : (rx b s).activeProf = s.activeProf := by rw [rx_rest]
@[simp] theorem rx_bus (b : Byte) : (rx b s).bus = s.bus := by rw [rx_rest]
@[simp] theorem rx_busy (b : Byte) : (rx b s).busy = s.busy := by rw [rx_rest]
@[simp] theorem rx_udfSticky (b : Byte) : (rx b s).udfSticky = s.udfSticky := by rw [rx_rest]
@[simp] theorem rx_udfWait (b : Byte) : (rx b s).udfWait = s.udfWait := by rw [rx_rest]
@[simp] theorem rx_out (b : Byte) : (rx b s).out = s.out := by rw [rx_rest]
@[simp] theorem rx_target (b : Byte) : (rx b s).target = s.target := by rw [rx_rest]
@[simp] theorem rx_unwritten (b : Byte) : (rx b s).unwritten = s.unwritten := by rw [rx_rest]
@[simp] theorem rx_draws (b : Byte) : (rx b s).draws = s.draws := by rw [rx_rest]
@[simp] theorem rx_env (b : Byte) : (rx b s).env = s.env := by rw [rx_rest]
@[simp] theorem rx_head (b : Byte) : (rx b s).fifo.head = s.fifo.head := by rw [rx_rest]
@[simp] theorem rx_activeProfile (b : Byte) : activeProfile (rx b s) = activeProfile s := by
  simp [activeProfile]

/-- The FIFO after a receive step: unchanged where it was full, else the accepted push's. -/
theorem rx_fifo (b : Byte) (s : State) :
    (rx b s).fifo = if occ s = s.cfg.capacity - 1 then s.fifo else (pushAccept b s).fifo := by
  rw [rx_eq, framer_fifo]
  unfold received
  split <;> rfl

/-- The occupancy after a receive step. -/
theorem occ_rx (b : Byte) (hh : s.fifo.head < s.cfg.capacity) (ht : s.fifo.tail < s.cfg.capacity) :
    occ (rx b s) = if occ s = s.cfg.capacity - 1 then occ s else occ s + 1 := by
  have e : occ (rx b s) = if occ s = s.cfg.capacity - 1 then occ s else occ (pushAccept b s) := by
    have hf := rx_fifo b s
    split at hf
    · rename_i h
      rw [if_pos h]
      exact occ_congr (by rw [hf]) (by rw [hf]) (by simp)
    · rename_i h
      rw [if_neg h]
      exact occ_congr (by rw [hf]) (by rw [hf]) (by simp; rfl)
  rw [e]
  split
  · rfl
  · have := occ_lt (s := s) (by omega)
    exact occ_pushAccept b hh ht (by omega)

/-- A stored byte stays through a receive step. -/
theorem rx_slot (b : Byte) (hh : s.fifo.head < s.cfg.capacity) (ht : s.fifo.tail < s.cfg.capacity)
    {k : Nat} (hk : k < occ s) :
    slot (rx b s) ((s.fifo.head + k) % s.cfg.capacity) = slot s ((s.fifo.head + k) % s.cfg.capacity) := by
  unfold slot
  rw [rx_fifo]
  split
  · rfl
  · have := occ_lt (s := s) (by omega)
    rw [pushAccept_fifo]
    exact memGet_memSet_other (pushAccept_slot_ne hh ht (by omega) hk) b

/-- The byte of an accepted receive step is stored after the last one. -/
theorem rx_slot_new (b : Byte) (hm : Memory.wf .fifo s.fifo.slots = true)
    (hh : s.fifo.head < s.cfg.capacity) (ht : s.fifo.tail < s.cfg.capacity) (ho : occ s < s.cfg.capacity - 1) :
    slot (rx b s) ((s.fifo.head + occ s) % s.cfg.capacity) = b := by
  unfold slot
  rw [rx_fifo, if_neg (by omega), pushAccept_slot_eq hh ht, pushAccept_fifo]
  exact memGet_memSet_same hm _ b

/-! ## Pop and clear -/

/-- The pop's FIFO. -/
@[simp] theorem popData_fifo (s : State) :
    (popData s).fifo = { s.fifo with head := (s.fifo.head + 1) % s.cfg.capacity } := rfl

/-- A pop with data lowers the occupancy by one. -/
theorem occ_popData (hh : s.fifo.head < s.cfg.capacity) (ht : s.fifo.tail < s.cfg.capacity) (ho : 0 < occ s) :
    occ (popData s) = occ s - 1 := by
  have hc : (popData s).cfg.capacity = s.cfg.capacity := rfl
  have hhd : (popData s).fifo.head = (s.fifo.head + 1) % s.cfg.capacity := rfl
  have htl : (popData s).fifo.tail = s.fifo.tail := rfl
  have e1 := occ_eq (s := popData s) (by rw [hhd, hc]; exact Nat.mod_lt _ (by omega))
  rw [hc, hhd, htl] at e1
  rw [e1, succ_mod hh]
  rcases occ_cases hh ht with ⟨ha, hb, e⟩ | ⟨ha, e⟩ | ⟨ha, e⟩
  · split
    · rw [show s.fifo.tail + 1 + (s.cfg.capacity - 0) = s.cfg.capacity + s.cfg.capacity by omega,
        Nat.add_mod_right, Nat.mod_self]
      omega
    · rw [show s.fifo.tail + 1 + (s.cfg.capacity - (s.fifo.head + 1))
        = (s.fifo.tail - s.fifo.head) + s.cfg.capacity by omega, Nat.add_mod_right, Nat.mod_eq_of_lt (by omega)]
      omega
  · omega
  · split
    · rw [show s.fifo.tail + 1 + (s.cfg.capacity - 0) = s.fifo.tail + 1 + s.cfg.capacity by omega,
        Nat.add_mod_right, Nat.mod_eq_of_lt (by omega)]
      omega
    · rw [Nat.mod_eq_of_lt (by omega)]
      omega

/-- All that a step beginning with a pop can do: take the oldest byte, hold, begin the wait of an underflow, or take the
sentinel at its end. -/
theorem withPop_cases (s : State) (k : Byte → State → Result) :
    (s.udfWait = false ∧ 0 < occ s ∧ withPop s k = k (oldest s) (popData s)) ∨
    (s.udfWait = false ∧ occ s = 0 ∧ s.cfg.popPolicy = .block ∧ withPop s k = .next s) ∨
    (s.udfWait = false ∧ occ s = 0 ∧ s.cfg.popPolicy = .failFast ∧ withPop s k = .next (popUnderflow s)) ∨
    (s.udfWait = true ∧ withPop s k = k s.cfg.sentinel (popResume s)) := by
  cases hw : s.udfWait
  · by_cases h : 0 < occ s
    · exact .inl ⟨rfl, h, by simp [withPop, hw, h]⟩
    · cases hp : s.cfg.popPolicy
      · exact .inr (.inl ⟨rfl, by omega, rfl, by simp [withPop, hw, h, hp]⟩)
      · exact .inr (.inr (.inl ⟨rfl, by omega, rfl, by simp [withPop, hw, h, hp]⟩))
  · exact .inr (.inr (.inr ⟨rfl, by simp [withPop, hw]⟩))

/-- The cleared FIFO is empty. -/
theorem occ_clear (h : 0 < s.cfg.capacity) : occ (clear s) = 0 := by
  have hc : (clear s).cfg.capacity = s.cfg.capacity := rfl
  have hhd : (clear s).fifo.head = 0 := rfl
  have htl : (clear s).fifo.tail = s.cfg.capacity - 1 := rfl
  have e := occ_eq (s := clear s) (by rw [hhd, hc]; exact h)
  rw [hc, hhd, htl] at e
  rw [e, show s.cfg.capacity - 1 + 1 + (s.cfg.capacity - 0) = s.cfg.capacity + s.cfg.capacity by omega]
  simp

/-- Below the lowest mark the flow signal is released. -/
theorem fcNext_zero {p : FcPolicy} {c : Nat} (h : p.fits c = true) (b : Bool) : fcNext p 0 b = false := by
  cases p with
  | single m => simp [fcNext]
  | hysteresis hwm lwm =>
    simp only [FcPolicy.fits, decide_eq_true_eq] at h
    simp only [fcNext]
    rw [if_neg (by omega), if_pos (by omega)]

/-- A second flow update changes nothing. -/
theorem fcNext_idem (p : FcPolicy) (n : Nat) (b : Bool) : fcNext p n (fcNext p n b) = fcNext p n b := by
  cases p with
  | single m => rfl
  | hysteresis hwm lwm =>
    simp only [fcNext]
    split
    · rfl
    · split <;> rfl

end Sys2Proof.Machine
end

