-- ==== Sys2Proof/Laws/Meanings.lean ====
section
/-! SUPPORT. What each step can do, said once: an inversion lemma per meaning, for the dispatcher, for the host and for
the step itself, and the facts about the device bus and the loop that the invariants rest on. -/

namespace Sys2Proof.Machine

open Sys2Proof

variable {s t : State}

/-! ## Combinators -/

theorem withProfile_next {k : Profile → Result} (h : withProfile s k = .next t) :
    ∃ p, activeProfile s = some p ∧ k p = .next t := by
  unfold withProfile at h
  split at h
  · exact ⟨_, ‹_›, h⟩
  · cases h

theorem withProfile_some {k : Profile → Result} {p : Profile} (h : activeProfile s = some p) :
    withProfile s k = k p := by
  unfold withProfile
  rw [h]

theorem atTarget_next {p : Profile} {u : State} (h : atTarget p s u = .next t) :
    s.bus.addr.toNat < p.size ∧ u = t := by
  unfold atTarget at h
  split at h
  · exact ⟨‹_›, by cases h; rfl⟩
  · cases h

theorem atTarget_lt {p : Profile} {u : State} (h : s.bus.addr.toNat < p.size) : atTarget p s u = .next u := by
  rw [atTarget, if_pos h]

/-- All that a step beginning with a pop can answer: held, the rest of the step after a pop with data, the begun wait of
an underflow, or the rest of the step after that wait. -/
theorem withPop_next {k : Byte → State → State} (h : withPop s (fun v u => .next (k v u)) = .next t) :
    t = s ∨ (s.udfWait = false ∧ 0 < occ s ∧ t = k (oldest s) (popData s)) ∨
      (s.udfWait = false ∧ occ s = 0 ∧ s.cfg.popPolicy = .failFast ∧ t = popUnderflow s) ∨
      (s.udfWait = true ∧ t = k s.cfg.sentinel (popResume s)) := by
  rcases withPop_cases s fun v u => .next (k v u) with
    ⟨hw, h0, e⟩ | ⟨-, -, -, e⟩ | ⟨hw, h0, hp, e⟩ | ⟨hw, e⟩ <;> rw [e] at h <;> cases h
  · exact .inr (.inl ⟨hw, h0, rfl⟩)
  · exact .inl rfl
  · exact .inr (.inr (.inl ⟨hw, h0, hp, rfl⟩))
  · exact .inr (.inr (.inr ⟨hw, rfl⟩))

/-- A step beginning with a pop never stops. -/
theorem withPop_isNext (s : State) (k : Byte → State → State) : ∃ t, withPop s (fun v u => .next (k v u)) = .next t := by
  rcases withPop_cases s fun v u => .next (k v u) with ⟨-, -, e⟩ | ⟨-, -, -, e⟩ | ⟨-, -, -, e⟩ | ⟨-, e⟩ <;>
    exact ⟨_, e⟩

/-! ## The commands -/

/-- All that one step of Read can do. -/
theorem execRead_next (h : execRead s = .next t) :
    (s.seq = .dispatch ∧ t = enterLoop .rdTop s) ∨
    (s.seq = .rdTop ∧ t = loopTop .read .rdAddr s) ∨
    (s.seq = .rdAddr ∧ t = driveAddress .rdEn s) ∨
    (∃ p, activeProfile s = some p ∧
      ((s.seq = .rdEn ∧ t = enableRead p.ctlRead .rdSample s) ∨
       (s.seq = .rdSample ∧ s.bus.addr.toNat < p.size ∧
         t = cursorNext p .rdTop .rdEnd
          (emit (dumpItem p.size s.regs.cursor (busByte p.ctlRead s)) (sample p.ctlRead s))) ∨
       (s.seq = .rdEnd ∧ t = goto .done (busSafe p s)))) ∨
    (s.seq = .abort ∧ abortStep s = .next t) ∨
    (s.seq = .done ∧ t = doneStep s) := by
  unfold execRead at h
  split at h <;> rename_i hq
  · cases h; exact .inl ⟨hq, rfl⟩
  · cases h; exact .inr (.inl ⟨hq, rfl⟩)
  · cases h; exact .inr (.inr (.inl ⟨hq, rfl⟩))
  · obtain ⟨p, hp, e⟩ := withProfile_next h
    cases e; exact .inr (.inr (.inr (.inl ⟨p, hp, .inl ⟨hq, rfl⟩⟩)))
  · obtain ⟨p, hp, e⟩ := withProfile_next h
    obtain ⟨ha, rfl⟩ := atTarget_next e
    exact .inr (.inr (.inr (.inl ⟨p, hp, .inr (.inl ⟨hq, ha, rfl⟩)⟩)))
  · obtain ⟨p, hp, e⟩ := withProfile_next h
    cases e; exact .inr (.inr (.inr (.inl ⟨p, hp, .inr (.inr ⟨hq, rfl⟩)⟩)))
  · exact .inr (.inr (.inr (.inr (.inl ⟨hq, h⟩))))
  · cases h; exact .inr (.inr (.inr (.inr (.inr ⟨hq, rfl⟩))))
  · cases h

/-- All that one step of BlankCheck can do. -/
theorem execBlankCheck_next (h : execBlankCheck s = .next t) :
    (s.seq = .dispatch ∧ t = enterLoop .bcTop s) ∨
    (s.seq = .bcTop ∧ t = loopTop .blankCheck .bcAddr s) ∨
    (s.seq = .bcAddr ∧ t = driveAddress .bcEn s) ∨
    (∃ p, activeProfile s = some p ∧
      ((s.seq = .bcEn ∧ t = enableRead p.ctlBlank .bcSample s) ∨
       (s.seq = .bcSample ∧ s.bus.addr.toNat < p.size ∧
         t = if busByte p.ctlBlank s = 0xFF then cursorNext p .bcTop .bcEnd (sample p.ctlBlank s)
          else blankFail p (sample p.ctlBlank s)) ∨
       (s.seq = .bcEnd ∧ t = goto .done (emit textOk (busSafe p s))))) ∨
    (s.seq = .abort ∧ abortStep s = .next t) ∨
    (s.seq = .done ∧ t = doneStep s) := by
  unfold execBlankCheck at h
  split at h <;> rename_i hq
  · cases h; exact .inl ⟨hq, rfl⟩
  · cases h; exact .inr (.inl ⟨hq, rfl⟩)
  · cases h; exact .inr (.inr (.inl ⟨hq, rfl⟩))
  · obtain ⟨p, hp, e⟩ := withProfile_next h
    cases e; exact .inr (.inr (.inr (.inl ⟨p, hp, .inl ⟨hq, rfl⟩⟩)))
  · obtain ⟨p, hp, e⟩ := withProfile_next h
    obtain ⟨ha, rfl⟩ := atTarget_next e
    exact .inr (.inr (.inr (.inl ⟨p, hp, .inr (.inl ⟨hq, ha, rfl⟩)⟩)))
  · obtain ⟨p, hp, e⟩ := withProfile_next h
    cases e; exact .inr (.inr (.inr (.inl ⟨p, hp, .inr (.inr ⟨hq, rfl⟩)⟩)))
  · exact .inr (.inr (.inr (.inr (.inl ⟨hq, h⟩))))
  · cases h; exact .inr (.inr (.inr (.inr (.inr ⟨hq, rfl⟩))))
  · cases h

/-- All that one step of Write can do. -/
theorem execWrite_next (h : execWrite s = .next t) :
    (s.seq = .dispatch ∧ t = enterLoop .wrTop s) ∨
    (s.seq = .wrTop ∧ t = loopTop .write .wrHi s) ∨
    (s.seq = .wrHi ∧ withPop s (fun v u => .next (goto .wrLo (setCHi v u))) = .next t) ∨
    (s.seq = .wrLo ∧ withPop s (fun v u => .next (goto .wrDrive (setCLo v u))) = .next t) ∨
    (∃ p, activeProfile s = some p ∧
      ((s.seq = .wrDrive ∧ t = driveData p s) ∨
       (s.seq = .wrPulse ∧ s.pulsing = false ∧ t = pulseAssert p s) ∨
       (s.seq = .wrPulse ∧ s.pulsing = true ∧ s.bus.addr.toNat < p.size ∧
         t = cursorNext p .wrTop .wrEnd (pulseDeassert p s)) ∨
       (s.seq = .wrEnd ∧ t = goto .done (emit textOk (busSafe p s))))) ∨
    (s.seq = .abort ∧ abortStep s = .next t) ∨
    (s.seq = .done ∧ t = doneStep s) := by
  unfold execWrite at h
  split at h <;> rename_i hq
  · cases h; exact .inl ⟨hq, rfl⟩
  · cases h; exact .inr (.inl ⟨hq, rfl⟩)
  · exact .inr (.inr (.inl ⟨hq, h⟩))
  · exact .inr (.inr (.inr (.inl ⟨hq, h⟩)))
  · obtain ⟨p, hp, e⟩ := withProfile_next h
    cases e; exact .inr (.inr (.inr (.inr (.inl ⟨p, hp, .inl ⟨hq, rfl⟩⟩))))
  · obtain ⟨p, hp, e⟩ := withProfile_next h
    unfold writePulse at e
    split at e
    · obtain ⟨ha, rfl⟩ := atTarget_next e
      exact .inr (.inr (.inr (.inr (.inl ⟨p, hp, .inr (.inr (.inl ⟨hq, ‹_›, ha, rfl⟩))⟩))))
    · cases e
      exact .inr (.inr (.inr (.inr (.inl ⟨p, hp, .inr (.inl ⟨hq, by simpa using ‹¬ s.pulsing = true›, rfl⟩)⟩))))
  · obtain ⟨p, hp, e⟩ := withProfile_next h
    cases e; exact .inr (.inr (.inr (.inr (.inl ⟨p, hp, .inr (.inr (.inr ⟨hq, rfl⟩))⟩))))
  · exact .inr (.inr (.inr (.inr (.inr (.inl ⟨hq, h⟩)))))
  · cases h; exact .inr (.inr (.inr (.inr (.inr (.inr ⟨hq, rfl⟩)))))
  · cases h

/-- All that step ABORT can do. -/
theorem abortStep_next (h : abortStep s = .next t) :
    ∃ p, activeProfile s = some p ∧ t = goto .done (emit (textAborted s.regs.abortOp)
      (raiseEvent (.operationAborted s.regs.abortOp s.regs.cursor) (busSafe p s))) := by
  obtain ⟨p, hp, e⟩ := withProfile_next h
  cases e
  exact ⟨p, hp, rfl⟩

/-- All that one step of Identify can do. -/
theorem execIdentify_next (h : execIdentify s = .next t) :
    (s.seq = .dispatch ∧ t = goto .ident s) ∨
    (s.seq = .ident ∧ ∃ p, activeProfile s = some p ∧ t = goto .done (emit p.ident s)) ∨
    (s.seq = .done ∧ t = doneStep s) := by
  unfold execIdentify at h
  split at h <;> rename_i hq
  · cases h; exact .inl ⟨hq, rfl⟩
  · obtain ⟨p, hp, e⟩ := withProfile_next h
    cases e; exact .inr (.inl ⟨hq, p, hp, rfl⟩)
  · cases h; exact .inr (.inr ⟨hq, rfl⟩)
  · cases h

/-- All that one step of SetDeviceType can do. -/
theorem execSetDeviceType_next (h : execSetDeviceType s = .next t) :
    (s.seq = .dispatch ∧ s.cfg.variant = .multiFamily ∧ t = goto .stKey s) ∨
    (s.seq = .dispatch ∧ s.cfg.variant = .singleFamily ∧ t = unknownCommand 0x35 s) ∨
    (s.seq = .stKey ∧ withPop s (fun k u => .next (goto .done (selectProfile k u))) = .next t) ∨
    (s.seq = .done ∧ t = doneStep s) := by
  unfold execSetDeviceType at h
  split at h <;> rename_i hq
  · split at h <;> cases h
    · exact .inl ⟨hq, ‹_›, rfl⟩
    · exact .inr (.inl ⟨hq, ‹_›, rfl⟩)
  · exact .inr (.inr (.inl ⟨hq, h⟩))
  · cases h; exact .inr (.inr (.inr ⟨hq, rfl⟩))
  · cases h

/-- All that one step of InitBaud can do. -/
theorem execInitBaud_next (h : execInitBaud s = .next t) :
    (s.seq = .dispatch ∧ t = goto .baud s) ∨
    (s.seq = .baud ∧ t = goto .done (emit textInit s)) ∨
    (s.seq = .done ∧ t = doneStep s) := by
  unfold execInitBaud at h
  split at h <;> rename_i hq
  · cases h; exact .inl ⟨hq, rfl⟩
  · cases h; exact .inr (.inl ⟨hq, rfl⟩)
  · cases h; exact .inr (.inr ⟨hq, rfl⟩)
  · cases h

/-- All that one step of a reserved code can do. -/
theorem execReserved_next {c : Byte} (h : execReserved c s = .next t) :
    (s.seq = .dispatch ∧ t = unknownCommand c s) ∨ (s.seq = .done ∧ t = doneStep s) := by
  unfold execReserved at h
  split at h <;> rename_i hq
  · cases h; exact .inl ⟨hq, rfl⟩
  · cases h; exact .inr ⟨hq, rfl⟩
  · cases h

/-- Profile selection changes `active_prof`, `CTL` and `out` together, or nothing. -/
theorem selectProfile_cases (k : Byte) (s : State) :
    selectProfile k s = s ∨
    ∃ i p, keyIndex s.cfg.profiles k = some i ∧ s.cfg.profiles[i]? = some p ∧
      selectProfile k s = emit textOk (setCtl p.ctlIdle { s with activeProf := i }) := by
  unfold selectProfile
  cases hk : keyIndex s.cfg.profiles k with
  | none => exact .inl rfl
  | some i =>
    cases hp : s.cfg.profiles[i]? with
    | none => exact .inl (by simp [hp])
    | some p => exact .inr ⟨i, p, rfl, hp, by simp [hp]⟩

/-! ## The loop and the bus -/

theorem cursorNext_cases (p : Profile) (top last : Seq) (s : State) :
    (s.regs.cursor.toNat + 1 = p.size ∧ cursorNext p top last s = goto last s) ∨
    (s.regs.cursor.toNat + 1 ≠ p.size ∧
      cursorNext p top last s = goto top (setCursor (BitVec.ofNat 16 (s.regs.cursor.toNat + 1)) s)) := by
  unfold cursorNext
  by_cases h : s.regs.cursor.toNat + 1 = p.size
  · exact .inl ⟨h, by simp [h]⟩
  · exact .inr ⟨h, by simp [h]⟩

theorem loopTop_cases (op : Op) (q : Seq) (s : State) :
    (s.activeFlag = true ∧ loopTop op q s = goto q s) ∨
    (s.activeFlag = false ∧ loopTop op q s = goto .abort (setAbortOp op s)) := by
  unfold loopTop
  cases h : s.activeFlag <;> simp

@[simp] theorem sample_rdata (pat : Ctl) (s : State) : (sample pat s).regs.rdata = busByte pat s := rfl
@[simp] theorem sample_cursor (pat : Ctl) (s : State) : (sample pat s).regs.cursor = s.regs.cursor := rfl

/-- Asserting and deasserting the pulse line gives the programming pattern back where the line is inactive in it
(42_bus_sequencer.md R231). -/
theorem setLine_back {c : Ctl} {l : Line} {v w : Level} (h : c.line l = w) : (c.setLine l v).setLine l w = c := by
  cases c
  cases l <;> simp only [Ctl.line] at h <;> simp [Ctl.setLine, h]

/-- Programming writes target cells and nothing else. -/
theorem program_rest (s : State) :
    program s = { s with target := { s.target with cells := (program s).target.cells } } := by
  unfold program
  split <;> rfl

/-- What a well-formed configuration says of its profiles. -/
theorem wellFormed_profile {c : Config} (h : c.WellFormed) {i : Nat} {p : Profile} (hp : c.profiles[i]? = some p) :
    1 ≤ p.size ∧ p.size ≤ 65536 ∧ p.ctlProg.line p.pulseLine = p.pulseLevel.inv := by
  have hm : p ∈ c.profiles := List.mem_of_getElem? hp
  have h1 := h .profileSize
  have h2 := h .pulsePattern
  simp only [Config.passes, List.all_eq_true, decide_eq_true_eq] at h1 h2
  exact ⟨(h1 p hm).1, (h1 p hm).2, h2 p hm⟩

/-- A configuration in which no check fails is well formed. -/
theorem wellFormed_of_failed {c : Config} (h : c.failed = none) : c.WellFormed := by
  intro k
  have hk : k ∈ Config.checks := by cases k <;> decide
  simpa using List.find?_eq_none.1 h k hk

/-- The pulse level of a profile of a well-formed configuration is a driven one (42_bus_sequencer.md R231). -/
theorem wellFormed_pulseLevel {c : Config} (h : c.WellFormed) {i : Nat} {p : Profile} (hp : c.profiles[i]? = some p) :
    p.pulseLevel ≠ .hiZ := by
  have h1 := h .pulseLevel
  simp only [Config.passes, List.all_eq_true, decide_eq_true_eq] at h1
  exact h1 p (List.mem_of_getElem? hp)

theorem wellFormed_capacity {c : Config} (h : c.WellFormed) : 3 ≤ c.capacity := by
  simpa [Config.passes] using h .capacity

theorem wellFormed_fits {c : Config} (h : c.WellFormed) : c.fcPolicy.fits c.capacity = true := h .watermarks

/-! ## Forgetting a register -/

@[simp] theorem forget_forget (r : Reg) (s : State) : forget r (forget r s) = forget r s := by cases r <;> rfl

@[simp] theorem forget_cfg (r : Reg) (s : State) : (forget r s).cfg = s.cfg := by cases r <;> rfl
@[simp] theorem forget_fifo (r : Reg) (s : State) : (forget r s).fifo = s.fifo := by cases r <;> rfl
@[simp] theorem forget_fcPause (r : Reg) (s : State) : (forget r s).fcPause = s.fcPause := by cases r <;> rfl
@[simp] theorem forget_activeFlag (r : Reg) (s : State) : (forget r s).activeFlag = s.activeFlag := by cases r <;> rfl
@[simp] theorem forget_seq (r : Reg) (s : State) : (forget r s).seq = s.seq := by cases r <;> rfl
@[simp] theorem forget_pulsing (r : Reg) (s : State) : (forget r s).pulsing = s.pulsing := by cases r <;> rfl
@[simp] theorem forget_activeProf (r : Reg) (s : State) : (forget r s).activeProf = s.activeProf := by cases r <;> rfl
@[simp] theorem forget_busy (r : Reg) (s : State) : (forget r s).busy = s.busy := by cases r <;> rfl
@[simp] theorem forget_ovfSticky (r : Reg) (s : State) : (forget r s).ovfSticky = s.ovfSticky := by cases r <;> rfl
@[simp] theorem forget_udfSticky (r : Reg) (s : State) : (forget r s).udfSticky = s.udfSticky := by cases r <;> rfl
@[simp] theorem forget_udfWait (r : Reg) (s : State) : (forget r s).udfWait = s.udfWait := by cases r <;> rfl
@[simp] theorem forget_out (r : Reg) (s : State) : (forget r s).out = s.out := by cases r <;> rfl
@[simp] theorem forget_target (r : Reg) (s : State) : (forget r s).target = s.target := by cases r <;> rfl
@[simp] theorem forget_ev (r : Reg) (s : State) : (forget r s).ev = s.ev := by cases r <;> rfl
@[simp] theorem forget_unwritten (r : Reg) (s : State) : (forget r s).unwritten = s.unwritten := by cases r <;> rfl
@[simp] theorem forget_draws (r : Reg) (s : State) : (forget r s).draws = s.draws := by cases r <;> rfl
@[simp] theorem forget_env (r : Reg) (s : State) : (forget r s).env = s.env := by cases r <;> rfl

theorem forget_withPop (r : Reg) (s : State) (k : Byte → State → State)
    (hk : ∀ v t, forget r (k v (forget r t)) = forget r (k v t)) :
    mapNext (forget r) (withPop (forget r s) fun v t => .next (k v t)) =
      mapNext (forget r) (withPop s fun v t => .next (k v t)) := by
  have h1 : occ (forget r s) = occ s := by cases r <;> rfl
  have h2 : oldest (forget r s) = oldest s := by cases r <;> rfl
  have h3 : popResume (forget r s) = forget r (popResume s) := by cases r <;> rfl
  have h4 : popData (forget r s) = forget r (popData s) := by cases r <;> rfl
  have h5 : popUnderflow (forget r s) = forget r (popUnderflow s) := by cases r <;> rfl
  simp only [withPop, h1, h2, h3, h4, h5, forget_cfg, forget_udfWait]
  split_ifs
  · simp only [mapNext, hk]
  · simp only [mapNext, hk]
  · split <;> simp only [mapNext, forget_forget]

theorem forget_withProfile (r : Reg) (s : State) {k k' : Profile → Result}
    (hk : ∀ p, mapNext (forget r) (k' p) = mapNext (forget r) (k p)) :
    mapNext (forget r) (withProfile (forget r s) k') = mapNext (forget r) (withProfile s k) := by
  simp only [withProfile, activeProfile, forget_cfg, forget_activeProf]
  split
  · exact hk _
  · rfl

/-! ## The dispatcher, the host and the step -/

/-- All that one of the dispatcher's own steps can do. -/
theorem dispatcherStep_next (h : dispatcherStep s = .next t) :
    (s.seq = .idle ∧ s.activeFlag = true ∧ t = goto .frMark { s with busy := true }) ∨
    (s.seq = .idle ∧ s.activeFlag = false ∧ t = s) ∨
    (s.seq = .frMark ∧ withPop s (fun _ u => .next (goto .frCode u)) = .next t) ∨
    (s.seq = .frCode ∧ withPop s (fun v u => .next (goto .dispatch (setCmd v u))) = .next t) := by
  unfold dispatcherStep at h
  split at h <;> rename_i hq
  · split at h <;> cases h
    · exact .inl ⟨hq, ‹_›, rfl⟩
    · exact .inr (.inl ⟨hq, by simpa using ‹¬ s.activeFlag = true›, rfl⟩)
  · exact .inr (.inr (.inl ⟨hq, h⟩))
  · exact .inr (.inr (.inr ⟨hq, h⟩))
  · cases h

/-- All that one step of the host can do. -/
theorem hostStep_cases (s : State) :
    hostStep s = s ∨
    (∃ b rest, s.env.script = .send b :: rest ∧
      hostStep s = rx b { s with env := { s.env with script := rest, busyFell := false } }) ∨
    (∃ rest, s.env.script = .cancel :: rest ∧ s.cfg.hasCancel = true ∧
      hostStep s = cancel { s with env := { s.env with script := rest } }) ∨
    (∃ rest, s.env.script = .await :: rest ∧ s.env.busyFell = true ∧
      hostStep s = { s with env := { s.env with script := rest } }) := by
  unfold hostStep
  split
  · next he =>
    unfold hostEnabled at he
    split
    · exact .inl rfl
    · exact .inr (.inl ⟨_, _, ‹_›, rfl⟩)
    · next hs => rw [hs] at he; exact .inr (.inr (.inl ⟨_, hs, he, rfl⟩))
    · next hs => rw [hs] at he; exact .inr (.inr (.inr ⟨_, hs, he, rfl⟩))
  · exact .inl rfl

/-- All that a step can do: the host's step, the step of the command in progress, or the dispatcher's own. -/
theorem step_next (h : step s = .next t) :
    (nextAgent s = .host ∧ t = hostStep (takeTurn s)) ∨
    (nextAgent s = .main ∧ ∃ i, running s = some i ∧ exec i (takeTurn s) = .next t) ∨
    (nextAgent s = .main ∧ running s = none ∧ dispatcherStep (takeTurn s) = .next t) := by
  unfold step at h
  split at h
  · cases h; exact .inl ⟨‹_›, rfl⟩
  · split at h
    · exact .inr (.inl ⟨‹_›, _, ‹_›, h⟩)
    · exact .inr (.inr ⟨‹_›, ‹_›, h⟩)

/-- With nothing for the host to do and no schedule, a step is `SEQ_MAIN`'s, at the state itself. -/
theorem step_quiet (hq : s.env.script = [] ∧ s.env.turns = []) :
    step s = match running s with
      | some i => exec i s
      | none => dispatcherStep s := by
  obtain ⟨hs, ht⟩ := hq
  have e : takeTurn s = s := by
    unfold takeTurn
    rw [show s.env.turns.tail = s.env.turns by rw [ht]; rfl]
  have ha : nextAgent s = .main := by simp [nextAgent, ht, hostEnabled, hs]
  cases hr : running s <;> simp only [step, ha, e, hr]

/-- A run whose first step is known goes on from there. -/
theorem steps_succ {n : Nat} (h : step s = .next t) : steps (n + 1) s = steps n t := by
  simp only [steps, h]

/-- Runs join. -/
theorem steps_add {m n : Nat} (h : steps m s = .next t) : steps (m + n) s = steps n t := by
  induction m generalizing s with
  | zero => cases h; rw [Nat.zero_add]
  | succ m ih =>
    rw [Nat.succ_add]
    cases hs : step s with
    | next u => rw [steps_succ hs] at h ⊢; exact ih h
    | fault r => simp [steps, hs] at h
    | refused r => simp [steps, hs] at h

/-- `steps` is the host's run of the machine. -/
theorem steps_eq_run (n : Nat) (s : State) : steps n s = Host.Core.run Sys2Proof.core n s := by
  induction n generalizing s with
  | zero => rfl
  | succ n ih =>
    cases h : step s with
    | next t =>
      have h' : Sys2Proof.core.step s = .next t := h
      simp only [steps, Host.Core.run, h, h']
      exact ih t
    | fault r =>
      have h' : Sys2Proof.core.step s = .fault r := h
      simp only [steps, Host.Core.run, h, h']
      rfl
    | refused r =>
      have h' : Sys2Proof.core.step s = .refused r := h
      simp only [steps, Host.Core.run, h, h']
      rfl

/-- The code byte of a well-formed instruction decodes to it. -/
theorem decodeCode_code {i : Instr} (h : i.wellFormed = true) : decodeCode i.code = i := by
  cases i with
  | reserved c =>
    simp [Instr.wellFormed, commandCodes] at h
    simp [Instr.code, decodeCode, h]
  | _ => rfl

end Sys2Proof.Machine
end

