-- ==== Sys2Proof/Laws/PerInstr.lean ====
section
/-! SUPPORT. Statements made of every instruction, one lemma per constructor. -/

namespace Sys2Proof.Laws.EncodeShape

open Sys2Proof

/-- A frame is two bytes, the marker and then the code byte, and its table word is those bytes with the marker the more
significant (spec/30_encoding.md R120). -/
def Statement (i : Instr) : Prop :=
  encode i = [0x24, i.code] ∧ encodeWord i / 256 = 0x24 ∧ tableBytes 16 (encodeWord i) = some (encode i)

theorem read : Statement .read := by unfold Statement; decide
theorem write : Statement .write := by unfold Statement; decide
theorem blankCheck : Statement .blankCheck := by unfold Statement; decide
theorem identify : Statement .identify := by unfold Statement; decide
theorem setDeviceType : Statement .setDeviceType := by unfold Statement; decide
theorem initBaud : Statement .initBaud := by unfold Statement; decide

theorem reserved (code : Byte) : Statement (.reserved code) := by
  have h : code.toNat < 256 := code.isLt
  have e : encodeWord (.reserved code) = 36 * 256 + code.toNat := rfl
  have q : (36 * 256 + code.toNat) / 256 = 36 := by omega
  refine ⟨rfl, by rw [e, q], ?_⟩
  unfold tableBytes
  rw [if_pos rfl, e, q]
  refine congrArg some (congrArg₂ List.cons rfl (congrArg₂ List.cons ?_ rfl))
  apply BitVec.eq_of_toNat_eq
  rw [BitVec.toNat_ofNat]
  show (36 * 256 + code.toNat) % 256 = code.toNat
  omega

end Sys2Proof.Laws.EncodeShape
end

