-- ==== Sys2Proof/Laws/Steps.lean ====
section
/-! SUPPORT. One lemma per field per piece of a step: what it writes and what it leaves alone. Later proofs rewrite with
these and never unfold a piece: a comparison of two whole states computes every field, the bytes on the bus included. -/

namespace Sys2Proof.Machine

open Sys2Proof

variable (s : State)

/-! `enterLoop` -/

@[simp] theorem enterLoop_cfg (q : Seq) : (enterLoop q s).cfg = s.cfg := rfl
@[simp] theorem enterLoop_fifo (q : Seq) : (enterLoop q s).fifo = s.fifo := rfl
@[simp] theorem enterLoop_fcPause (q : Seq) : (enterLoop q s).fcPause = s.fcPause := rfl
@[simp] theorem enterLoop_activeFlag (q : Seq) : (enterLoop q s).activeFlag = s.activeFlag := rfl
@[simp] theorem enterLoop_seq (q : Seq) : (enterLoop q s).seq = q := rfl
@[simp] theorem enterLoop_pulsing (q : Seq) : (enterLoop q s).pulsing = s.pulsing := rfl
@[simp] theorem enterLoop_regs (q : Seq) : (enterLoop q s).regs = { s.regs with cursor := 0 } := rfl
@[simp] theorem enterLoop_activeProf (q : Seq) : (enterLoop q s).activeProf = s.activeProf := rfl
@[simp] theorem enterLoop_bus (q : Seq) : (enterLoop q s).bus = s.bus := rfl
@[simp] theorem enterLoop_busy (q : Seq) : (enterLoop q s).busy = s.busy := rfl
@[simp] theorem enterLoop_ovfSticky (q : Seq) : (enterLoop q s).ovfSticky = s.ovfSticky := rfl
@[simp] theorem enterLoop_udfSticky (q : Seq) : (enterLoop q s).udfSticky = s.udfSticky := rfl
@[simp] theorem enterLoop_udfWait (q : Seq) : (enterLoop q s).udfWait = s.udfWait := rfl
@[simp] theorem enterLoop_out (q : Seq) : (enterLoop q s).out = s.out := rfl
@[simp] theorem enterLoop_target (q : Seq) : (enterLoop q s).target = s.target := rfl
@[simp] theorem enterLoop_ev (q : Seq) : (enterLoop q s).ev = s.ev := rfl
@[simp] theorem enterLoop_unwritten (q : Seq) : (enterLoop q s).unwritten =
    s.unwritten.filter (fun x => x != .cursor) := rfl
@[simp] theorem enterLoop_draws (q : Seq) : (enterLoop q s).draws = s.draws := rfl
@[simp] theorem enterLoop_env (q : Seq) : (enterLoop q s).env = s.env := rfl
@[simp] theorem occ_enterLoop (q : Seq) : occ (enterLoop q s) = occ s := by simp [occ]
@[simp] theorem oldest_enterLoop (q : Seq) : oldest (enterLoop q s) = oldest s := by simp [oldest, slot]
@[simp] theorem activeProfile_enterLoop (q : Seq) : activeProfile (enterLoop q s) = activeProfile s := by simp [activeProfile]
@[simp] theorem cell_enterLoop (q : Seq) (a' : Addr) : cell (enterLoop q s) a' = cell s a' := by simp [cell]

/-! `driveAddress` -/

@[simp] theorem driveAddress_cfg (q : Seq) : (driveAddress q s).cfg = s.cfg := rfl
@[simp] theorem driveAddress_fifo (q : Seq) : (driveAddress q s).fifo = s.fifo := rfl
@[simp] theorem driveAddress_fcPause (q : Seq) : (driveAddress q s).fcPause = s.fcPause := rfl
@[simp] theorem driveAddress_activeFlag (q : Seq) : (driveAddress q s).activeFlag = s.activeFlag := rfl
@[simp] theorem driveAddress_seq (q : Seq) : (driveAddress q s).seq = q := rfl
@[simp] theorem driveAddress_pulsing (q : Seq) : (driveAddress q s).pulsing = s.pulsing := rfl
@[simp] theorem driveAddress_regs (q : Seq) : (driveAddress q s).regs = s.regs := rfl
@[simp] theorem driveAddress_activeProf (q : Seq) : (driveAddress q s).activeProf = s.activeProf := rfl
@[simp] theorem driveAddress_bus (q : Seq) : (driveAddress q s).bus =
    { s.bus with addr := s.regs.cursor, dir := .input } := rfl
@[simp] theorem driveAddress_busy (q : Seq) : (driveAddress q s).busy = s.busy := rfl
@[simp] theorem driveAddress_ovfSticky (q : Seq) : (driveAddress q s).ovfSticky = s.ovfSticky := rfl
@[simp] theorem driveAddress_udfSticky (q : Seq) : (driveAddress q s).udfSticky = s.udfSticky := rfl
@[simp] theorem driveAddress_udfWait (q : Seq) : (driveAddress q s).udfWait = s.udfWait := rfl
@[simp] theorem driveAddress_out (q : Seq) : (driveAddress q s).out = s.out := rfl
@[simp] theorem driveAddress_target (q : Seq) : (driveAddress q s).target = s.target := rfl
@[simp] theorem driveAddress_ev (q : Seq) : (driveAddress q s).ev = s.ev := rfl
@[simp] theorem driveAddress_unwritten (q : Seq) : (driveAddress q s).unwritten = s.unwritten := rfl
@[simp] theorem driveAddress_draws (q : Seq) : (driveAddress q s).draws = s.draws := rfl
@[simp] theorem driveAddress_env (q : Seq) : (driveAddress q s).env = s.env := rfl
@[simp] theorem occ_driveAddress (q : Seq) : occ (driveAddress q s) = occ s := by simp [occ]
@[simp] theorem oldest_driveAddress (q : Seq) : oldest (driveAddress q s) = oldest s := by simp [oldest, slot]
@[simp] theorem activeProfile_driveAddress (q : Seq) : activeProfile (driveAddress q s) = activeProfile s := by simp [activeProfile]
@[simp] theorem cell_driveAddress (q : Seq) (a' : Addr) : cell (driveAddress q s) a' = cell s a' := by simp [cell]

/-! `enableRead` -/

@[simp] theorem enableRead_cfg (pat : Ctl) (q : Seq) : (enableRead pat q s).cfg = s.cfg := rfl
@[simp] theorem enableRead_fifo (pat : Ctl) (q : Seq) : (enableRead pat q s).fifo = s.fifo := rfl
@[simp] theorem enableRead_fcPause (pat : Ctl) (q : Seq) : (enableRead pat q s).fcPause = s.fcPause := rfl
@[simp] theorem enableRead_activeFlag (pat : Ctl) (q : Seq) : (enableRead pat q s).activeFlag = s.activeFlag := rfl
@[simp] theorem enableRead_seq (pat : Ctl) (q : Seq) : (enableRead pat q s).seq = q := rfl
@[simp] theorem enableRead_pulsing (pat : Ctl) (q : Seq) : (enableRead pat q s).pulsing = s.pulsing := rfl
@[simp] theorem enableRead_regs (pat : Ctl) (q : Seq) : (enableRead pat q s).regs = s.regs := rfl
@[simp] theorem enableRead_activeProf (pat : Ctl) (q : Seq) : (enableRead pat q s).activeProf = s.activeProf := rfl
@[simp] theorem enableRead_bus (pat : Ctl) (q : Seq) : (enableRead pat q s).bus = { s.bus with ctl := pat } := rfl
@[simp] theorem enableRead_busy (pat : Ctl) (q : Seq) : (enableRead pat q s).busy = s.busy := rfl
@[simp] theorem enableRead_ovfSticky (pat : Ctl) (q : Seq) : (enableRead pat q s).ovfSticky = s.ovfSticky := rfl
@[simp] theorem enableRead_udfSticky (pat : Ctl) (q : Seq) : (enableRead pat q s).udfSticky = s.udfSticky := rfl
@[simp] theorem enableRead_udfWait (pat : Ctl) (q : Seq) : (enableRead pat q s).udfWait = s.udfWait := rfl
@[simp] theorem enableRead_out (pat : Ctl) (q : Seq) : (enableRead pat q s).out = s.out := rfl
@[simp] theorem enableRead_target (pat : Ctl) (q : Seq) : (enableRead pat q s).target = s.target := rfl
@[simp] theorem enableRead_ev (pat : Ctl) (q : Seq) : (enableRead pat q s).ev = s.ev := rfl
@[simp] theorem enableRead_unwritten (pat : Ctl) (q : Seq) : (enableRead pat q s).unwritten = s.unwritten := rfl
@[simp] theorem enableRead_draws (pat : Ctl) (q : Seq) : (enableRead pat q s).draws = s.draws := rfl
@[simp] theorem enableRead_env (pat : Ctl) (q : Seq) : (enableRead pat q s).env = s.env := rfl
@[simp] theorem occ_enableRead (pat : Ctl) (q : Seq) : occ (enableRead pat q s) = occ s := by simp [occ]
@[simp] theorem oldest_enableRead (pat : Ctl) (q : Seq) : oldest (enableRead pat q s) = oldest s := by simp [oldest, slot]
@[simp] theorem activeProfile_enableRead (pat : Ctl) (q : Seq) : activeProfile (enableRead pat q s) = activeProfile s := by simp [activeProfile]
@[simp] theorem cell_enableRead (pat : Ctl) (q : Seq) (a' : Addr) : cell (enableRead pat q s) a' = cell s a' := by simp [cell]

/-! `busSafe` -/

@[simp] theorem busSafe_cfg (p : Profile) : (busSafe p s).cfg = s.cfg := rfl
@[simp] theorem busSafe_fifo (p : Profile) : (busSafe p s).fifo = s.fifo := rfl
@[simp] theorem busSafe_fcPause (p : Profile) : (busSafe p s).fcPause = s.fcPause := rfl
@[simp] theorem busSafe_activeFlag (p : Profile) : (busSafe p s).activeFlag = s.activeFlag := rfl
@[simp] theorem busSafe_seq (p : Profile) : (busSafe p s).seq = s.seq := rfl
@[simp] theorem busSafe_pulsing (p : Profile) : (busSafe p s).pulsing = s.pulsing := rfl
@[simp] theorem busSafe_regs (p : Profile) : (busSafe p s).regs = s.regs := rfl
@[simp] theorem busSafe_activeProf (p : Profile) : (busSafe p s).activeProf = s.activeProf := rfl
@[simp] theorem busSafe_bus (p : Profile) : (busSafe p s).bus = { s.bus with ctl := p.ctlIdle, dir := .input } := rfl
@[simp] theorem busSafe_busy (p : Profile) : (busSafe p s).busy = s.busy := rfl
@[simp] theorem busSafe_ovfSticky (p : Profile) : (busSafe p s).ovfSticky = s.ovfSticky := rfl
@[simp] theorem busSafe_udfSticky (p : Profile) : (busSafe p s).udfSticky = s.udfSticky := rfl
@[simp] theorem busSafe_udfWait (p : Profile) : (busSafe p s).udfWait = s.udfWait := rfl
@[simp] theorem busSafe_out (p : Profile) : (busSafe p s).out = s.out := rfl
@[simp] theorem busSafe_target (p : Profile) : (busSafe p s).target = s.target := rfl
@[simp] theorem busSafe_ev (p : Profile) : (busSafe p s).ev = s.ev := rfl
@[simp] theorem busSafe_unwritten (p : Profile) : (busSafe p s).unwritten = s.unwritten := rfl
@[simp] theorem busSafe_draws (p : Profile) : (busSafe p s).draws = s.draws := rfl
@[simp] theorem busSafe_env (p : Profile) : (busSafe p s).env = s.env := rfl
@[simp] theorem occ_busSafe (p : Profile) : occ (busSafe p s) = occ s := by simp [occ]
@[simp] theorem oldest_busSafe (p : Profile) : oldest (busSafe p s) = oldest s := by simp [oldest, slot]
@[simp] theorem activeProfile_busSafe (p : Profile) : activeProfile (busSafe p s) = activeProfile s := by simp [activeProfile]
@[simp] theorem cell_busSafe (p : Profile) (a' : Addr) : cell (busSafe p s) a' = cell s a' := by simp [cell]

/-! `unknownCommand` -/

@[simp] theorem unknownCommand_cfg (c : Byte) : (unknownCommand c s).cfg = s.cfg := rfl
@[simp] theorem unknownCommand_fifo (c : Byte) : (unknownCommand c s).fifo = s.fifo := rfl
@[simp] theorem unknownCommand_fcPause (c : Byte) : (unknownCommand c s).fcPause = s.fcPause := rfl
@[simp] theorem unknownCommand_activeFlag (c : Byte) : (unknownCommand c s).activeFlag = s.activeFlag := rfl
@[simp] theorem unknownCommand_seq (c : Byte) : (unknownCommand c s).seq = .done := rfl
@[simp] theorem unknownCommand_pulsing (c : Byte) : (unknownCommand c s).pulsing = s.pulsing := rfl
@[simp] theorem unknownCommand_regs (c : Byte) : (unknownCommand c s).regs = s.regs := rfl
@[simp] theorem unknownCommand_activeProf (c : Byte) : (unknownCommand c s).activeProf = s.activeProf := rfl
@[simp] theorem unknownCommand_bus (c : Byte) : (unknownCommand c s).bus = s.bus := rfl
@[simp] theorem unknownCommand_busy (c : Byte) : (unknownCommand c s).busy = s.busy := rfl
@[simp] theorem unknownCommand_ovfSticky (c : Byte) : (unknownCommand c s).ovfSticky = s.ovfSticky := rfl
@[simp] theorem unknownCommand_udfSticky (c : Byte) : (unknownCommand c s).udfSticky = s.udfSticky := rfl
@[simp] theorem unknownCommand_udfWait (c : Byte) : (unknownCommand c s).udfWait = s.udfWait := rfl
@[simp] theorem unknownCommand_out (c : Byte) : (unknownCommand c s).out = s.out := rfl
@[simp] theorem unknownCommand_target (c : Byte) : (unknownCommand c s).target = s.target := rfl
@[simp] theorem unknownCommand_ev (c : Byte) : (unknownCommand c s).ev = s.ev ++ [.unknownCommand c] := rfl
@[simp] theorem unknownCommand_unwritten (c : Byte) : (unknownCommand c s).unwritten = s.unwritten := rfl
@[simp] theorem unknownCommand_draws (c : Byte) : (unknownCommand c s).draws = s.draws := rfl
@[simp] theorem unknownCommand_env (c : Byte) : (unknownCommand c s).env = s.env := rfl
@[simp] theorem occ_unknownCommand (c : Byte) : occ (unknownCommand c s) = occ s := by simp [occ]
@[simp] theorem oldest_unknownCommand (c : Byte) : oldest (unknownCommand c s) = oldest s := by simp [oldest, slot]
@[simp] theorem activeProfile_unknownCommand (c : Byte) : activeProfile (unknownCommand c s) = activeProfile s := by simp [activeProfile]
@[simp] theorem cell_unknownCommand (c : Byte) (a' : Addr) : cell (unknownCommand c s) a' = cell s a' := by simp [cell]

/-! `sample` -/

@[simp] theorem sample_cfg (pat : Ctl) : (sample pat s).cfg = s.cfg := rfl
@[simp] theorem sample_fifo (pat : Ctl) : (sample pat s).fifo = s.fifo := rfl
@[simp] theorem sample_fcPause (pat : Ctl) : (sample pat s).fcPause = s.fcPause := rfl
@[simp] theorem sample_activeFlag (pat : Ctl) : (sample pat s).activeFlag = s.activeFlag := rfl
@[simp] theorem sample_seq (pat : Ctl) : (sample pat s).seq = s.seq := rfl
@[simp] theorem sample_pulsing (pat : Ctl) : (sample pat s).pulsing = s.pulsing := rfl
@[simp] theorem sample_regs (pat : Ctl) : (sample pat s).regs = { s.regs with rdata := busByte pat s } := rfl
@[simp] theorem sample_activeProf (pat : Ctl) : (sample pat s).activeProf = s.activeProf := rfl
@[simp] theorem sample_bus (pat : Ctl) : (sample pat s).bus = s.bus := rfl
@[simp] theorem sample_busy (pat : Ctl) : (sample pat s).busy = s.busy := rfl
@[simp] theorem sample_ovfSticky (pat : Ctl) : (sample pat s).ovfSticky = s.ovfSticky := rfl
@[simp] theorem sample_udfSticky (pat : Ctl) : (sample pat s).udfSticky = s.udfSticky := rfl
@[simp] theorem sample_udfWait (pat : Ctl) : (sample pat s).udfWait = s.udfWait := rfl
@[simp] theorem sample_out (pat : Ctl) : (sample pat s).out = s.out := rfl
@[simp] theorem sample_target (pat : Ctl) : (sample pat s).target = s.target := rfl
@[simp] theorem sample_ev (pat : Ctl) : (sample pat s).ev = s.ev ++ [.readCycle s.bus.addr (busByte pat s)] := rfl
@[simp] theorem sample_unwritten (pat : Ctl) : (sample pat s).unwritten =
    s.unwritten.filter (fun x => x != .rdata) := rfl
@[simp] theorem sample_draws (pat : Ctl) : (sample pat s).draws =
    if targetDrives pat s then s.draws else s.draws + 1 := rfl
@[simp] theorem sample_env (pat : Ctl) : (sample pat s).env = s.env := rfl
@[simp] theorem occ_sample (pat : Ctl) : occ (sample pat s) = occ s := by simp [occ]
@[simp] theorem oldest_sample (pat : Ctl) : oldest (sample pat s) = oldest s := by simp [oldest, slot]
@[simp] theorem activeProfile_sample (pat : Ctl) : activeProfile (sample pat s) = activeProfile s := by simp [activeProfile]
@[simp] theorem cell_sample (pat : Ctl) (a' : Addr) : cell (sample pat s) a' = cell s a' := by simp [cell]

/-! `blankFail` -/

@[simp] theorem blankFail_cfg (p : Profile) : (blankFail p s).cfg = s.cfg := by simp [blankFail]
@[simp] theorem blankFail_fifo (p : Profile) : (blankFail p s).fifo = s.fifo := by simp [blankFail]
@[simp] theorem blankFail_fcPause (p : Profile) : (blankFail p s).fcPause = s.fcPause := by simp [blankFail]
@[simp] theorem blankFail_activeFlag (p : Profile) : (blankFail p s).activeFlag = s.activeFlag := by simp [blankFail]
@[simp] theorem blankFail_seq (p : Profile) : (blankFail p s).seq = .done := by simp [blankFail]
@[simp] theorem blankFail_pulsing (p : Profile) : (blankFail p s).pulsing = s.pulsing := by simp [blankFail]
@[simp] theorem blankFail_regs (p : Profile) : (blankFail p s).regs = s.regs := by simp [blankFail]
@[simp] theorem blankFail_activeProf (p : Profile) : (blankFail p s).activeProf = s.activeProf := by simp [blankFail]
@[simp] theorem blankFail_bus (p : Profile) : (blankFail p s).bus =
    { s.bus with ctl := p.ctlIdle, dir := .input } := by simp [blankFail]
@[simp] theorem blankFail_busy (p : Profile) : (blankFail p s).busy = s.busy := by simp [blankFail]
@[simp] theorem blankFail_ovfSticky (p : Profile) : (blankFail p s).ovfSticky = s.ovfSticky := by simp [blankFail]
@[simp] theorem blankFail_udfSticky (p : Profile) : (blankFail p s).udfSticky = s.udfSticky := by simp [blankFail]
@[simp] theorem blankFail_udfWait (p : Profile) : (blankFail p s).udfWait = s.udfWait := by simp [blankFail]
@[simp] theorem blankFail_out (p : Profile) : (blankFail p s).out =
    s.out ++ textFail s.regs.cursor s.regs.rdata := by simp [blankFail]
@[simp] theorem blankFail_target (p : Profile) : (blankFail p s).target = s.target := by simp [blankFail]
@[simp] theorem blankFail_ev (p : Profile) : (blankFail p s).ev =
    s.ev ++ [.verificationFailure s.regs.cursor s.regs.rdata] := by simp [blankFail]
@[simp] theorem blankFail_unwritten (p : Profile) : (blankFail p s).unwritten = s.unwritten := by simp [blankFail]
@[simp] theorem blankFail_draws (p : Profile) : (blankFail p s).draws = s.draws := by simp [blankFail]
@[simp] theorem blankFail_env (p : Profile) : (blankFail p s).env = s.env := by simp [blankFail]
@[simp] theorem occ_blankFail (p : Profile) : occ (blankFail p s) = occ s := by simp [occ]
@[simp] theorem oldest_blankFail (p : Profile) : oldest (blankFail p s) = oldest s := by simp [oldest, slot]
@[simp] theorem activeProfile_blankFail (p : Profile) : activeProfile (blankFail p s) = activeProfile s := by simp [activeProfile]
@[simp] theorem cell_blankFail (p : Profile) (a' : Addr) : cell (blankFail p s) a' = cell s a' := by simp [cell]

/-! `driveData` -/

theorem driveData_eq (p : Profile) : driveData p s =
    { s with
      seq := .wrPulse
      regs := { s.regs with wdata := joinNibbles (nibbleOf s.regs.cHi s.draws) (nibbleOf s.regs.cLo (drawsAfter s.regs.cHi s.draws)) }
      draws := drawsAfter s.regs.cLo (drawsAfter s.regs.cHi s.draws)
      unwritten := (s.unwritten.filter (fun x => x != .wdata)).filter (fun x => x != .dout)
      bus := { addr := s.regs.cursor, dir := .output, dout := joinNibbles (nibbleOf s.regs.cHi s.draws) (nibbleOf s.regs.cLo (drawsAfter s.regs.cHi s.draws)), ctl := p.ctlProg }
    } := by
  simp only [driveData, goto, setCtl, setDir, setDout, setAddr, setWdata, markWritten]

@[simp] theorem driveData_cfg (p : Profile) : (driveData p s).cfg = s.cfg := by simp only [driveData_eq]
@[simp] theorem driveData_fifo (p : Profile) : (driveData p s).fifo = s.fifo := by simp only [driveData_eq]
@[simp] theorem driveData_fcPause (p : Profile) : (driveData p s).fcPause = s.fcPause := by simp only [driveData_eq]
@[simp] theorem driveData_activeFlag (p : Profile) : (driveData p s).activeFlag =
    s.activeFlag := by simp only [driveData_eq]
@[simp] theorem driveData_seq (p : Profile) : (driveData p s).seq = .wrPulse := by simp only [driveData_eq]
@[simp] theorem driveData_pulsing (p : Profile) : (driveData p s).pulsing = s.pulsing := by simp only [driveData_eq]
@[simp] theorem driveData_regs (p : Profile) : (driveData p s).regs =
    { s.regs with wdata := joinNibbles (nibbleOf s.regs.cHi s.draws) (nibbleOf s.regs.cLo (drawsAfter s.regs.cHi s.draws)) } := by simp only [driveData_eq]
@[simp] theorem driveData_activeProf (p : Profile) : (driveData p s).activeProf =
    s.activeProf := by simp only [driveData_eq]
@[simp] theorem driveData_bus (p : Profile) : (driveData p s).bus =
    { addr := s.regs.cursor, dir := .output, dout := joinNibbles (nibbleOf s.regs.cHi s.draws) (nibbleOf s.regs.cLo (drawsAfter s.regs.cHi s.draws)), ctl := p.ctlProg } := by simp only [driveData_eq]
@[simp] theorem driveData_busy (p : Profile) : (driveData p s).busy = s.busy := by simp only [driveData_eq]
@[simp] theorem driveData_ovfSticky (p : Profile) : (driveData p s).ovfSticky =
    s.ovfSticky := by simp only [driveData_eq]
@[simp] theorem driveData_udfSticky (p : Profile) : (driveData p s).udfSticky =
    s.udfSticky := by simp only [driveData_eq]
@[simp] theorem driveData_udfWait (p : Profile) : (driveData p s).udfWait = s.udfWait := by simp only [driveData_eq]
@[simp] theorem driveData_out (p : Profile) : (driveData p s).out = s.out := by simp only [driveData_eq]
@[simp] theorem driveData_target (p : Profile) : (driveData p s).target = s.target := by simp only [driveData_eq]
@[simp] theorem driveData_ev (p : Profile) : (driveData p s).ev = s.ev := by simp only [driveData_eq]
@[simp] theorem driveData_unwritten (p : Profile) : (driveData p s).unwritten =
    (s.unwritten.filter (fun x => x != .wdata)).filter (fun x => x != .dout) := by simp only [driveData_eq]
@[simp] theorem driveData_draws (p : Profile) : (driveData p s).draws =
    drawsAfter s.regs.cLo (drawsAfter s.regs.cHi s.draws) := by simp only [driveData_eq]
@[simp] theorem driveData_env (p : Profile) : (driveData p s).env = s.env := by simp only [driveData_eq]
@[simp] theorem occ_driveData (p : Profile) : occ (driveData p s) = occ s := by simp [occ]
@[simp] theorem oldest_driveData (p : Profile) : oldest (driveData p s) = oldest s := by simp [oldest, slot]
@[simp] theorem activeProfile_driveData (p : Profile) : activeProfile (driveData p s) = activeProfile s := by simp [activeProfile]
@[simp] theorem cell_driveData (p : Profile) (a' : Addr) : cell (driveData p s) a' = cell s a' := by simp [cell]

/-! `pulseAssert` -/

@[simp] theorem pulseAssert_cfg (p : Profile) : (pulseAssert p s).cfg = s.cfg := rfl
@[simp] theorem pulseAssert_fifo (p : Profile) : (pulseAssert p s).fifo = s.fifo := rfl
@[simp] theorem pulseAssert_fcPause (p : Profile) : (pulseAssert p s).fcPause = s.fcPause := rfl
@[simp] theorem pulseAssert_activeFlag (p : Profile) : (pulseAssert p s).activeFlag = s.activeFlag := rfl
@[simp] theorem pulseAssert_seq (p : Profile) : (pulseAssert p s).seq = s.seq := rfl
@[simp] theorem pulseAssert_pulsing (p : Profile) : (pulseAssert p s).pulsing = true := rfl
@[simp] theorem pulseAssert_regs (p : Profile) : (pulseAssert p s).regs = s.regs := rfl
@[simp] theorem pulseAssert_activeProf (p : Profile) : (pulseAssert p s).activeProf = s.activeProf := rfl
@[simp] theorem pulseAssert_bus (p : Profile) : (pulseAssert p s).bus =
    { s.bus with ctl := s.bus.ctl.setLine p.pulseLine p.pulseLevel } := rfl
@[simp] theorem pulseAssert_busy (p : Profile) : (pulseAssert p s).busy = s.busy := rfl
@[simp] theorem pulseAssert_ovfSticky (p : Profile) : (pulseAssert p s).ovfSticky = s.ovfSticky := rfl
@[simp] theorem pulseAssert_udfSticky (p : Profile) : (pulseAssert p s).udfSticky = s.udfSticky := rfl
@[simp] theorem pulseAssert_udfWait (p : Profile) : (pulseAssert p s).udfWait = s.udfWait := rfl
@[simp] theorem pulseAssert_out (p : Profile) : (pulseAssert p s).out = s.out := rfl
@[simp] theorem pulseAssert_target (p : Profile) : (pulseAssert p s).target = s.target := rfl
@[simp] theorem pulseAssert_ev (p : Profile) : (pulseAssert p s).ev = s.ev := rfl
@[simp] theorem pulseAssert_unwritten (p : Profile) : (pulseAssert p s).unwritten = s.unwritten := rfl
@[simp] theorem pulseAssert_draws (p : Profile) : (pulseAssert p s).draws = s.draws := rfl
@[simp] theorem pulseAssert_env (p : Profile) : (pulseAssert p s).env = s.env := rfl
@[simp] theorem occ_pulseAssert (p : Profile) : occ (pulseAssert p s) = occ s := by simp [occ]
@[simp] theorem oldest_pulseAssert (p : Profile) : oldest (pulseAssert p s) = oldest s := by simp [oldest, slot]
@[simp] theorem activeProfile_pulseAssert (p : Profile) : activeProfile (pulseAssert p s) = activeProfile s := by simp [activeProfile]
@[simp] theorem cell_pulseAssert (p : Profile) (a' : Addr) : cell (pulseAssert p s) a' = cell s a' := by simp [cell]

/-! `pulseDeassert` -/

@[simp] theorem pulseDeassert_cfg (p : Profile) : (pulseDeassert p s).cfg = s.cfg := by
  unfold pulseDeassert
  rw [program_rest]
  rfl
@[simp] theorem pulseDeassert_fifo (p : Profile) : (pulseDeassert p s).fifo = s.fifo := by
  unfold pulseDeassert
  rw [program_rest]
  rfl
@[simp] theorem pulseDeassert_fcPause (p : Profile) : (pulseDeassert p s).fcPause = s.fcPause := by
  unfold pulseDeassert
  rw [program_rest]
  rfl
@[simp] theorem pulseDeassert_activeFlag (p : Profile) : (pulseDeassert p s).activeFlag = s.activeFlag := by
  unfold pulseDeassert
  rw [program_rest]
  rfl
@[simp] theorem pulseDeassert_seq (p : Profile) : (pulseDeassert p s).seq = s.seq := by
  unfold pulseDeassert
  rw [program_rest]
  rfl
@[simp] theorem pulseDeassert_pulsing (p : Profile) : (pulseDeassert p s).pulsing = false := by
  unfold pulseDeassert
  rw [program_rest]
  rfl
@[simp] theorem pulseDeassert_regs (p : Profile) : (pulseDeassert p s).regs = s.regs := by
  unfold pulseDeassert
  rw [program_rest]
  rfl
@[simp] theorem pulseDeassert_activeProf (p : Profile) : (pulseDeassert p s).activeProf = s.activeProf := by
  unfold pulseDeassert
  rw [program_rest]
  rfl
@[simp] theorem pulseDeassert_bus (p : Profile) : (pulseDeassert p s).bus =
    { s.bus with ctl := s.bus.ctl.setLine p.pulseLine p.pulseLevel.inv } := by
  unfold pulseDeassert
  rw [program_rest]
  rfl
@[simp] theorem pulseDeassert_busy (p : Profile) : (pulseDeassert p s).busy = s.busy := by
  unfold pulseDeassert
  rw [program_rest]
  rfl
@[simp] theorem pulseDeassert_ovfSticky (p : Profile) : (pulseDeassert p s).ovfSticky = s.ovfSticky := by
  unfold pulseDeassert
  rw [program_rest]
  rfl
@[simp] theorem pulseDeassert_udfSticky (p : Profile) : (pulseDeassert p s).udfSticky = s.udfSticky := by
  unfold pulseDeassert
  rw [program_rest]
  rfl
@[simp] theorem pulseDeassert_udfWait (p : Profile) : (pulseDeassert p s).udfWait = s.udfWait := by
  unfold pulseDeassert
  rw [program_rest]
  rfl
@[simp] theorem pulseDeassert_out (p : Profile) : (pulseDeassert p s).out = s.out := by
  unfold pulseDeassert
  rw [program_rest]
  rfl
@[simp] theorem pulseDeassert_target (p : Profile) : (pulseDeassert p s).target =
    if s.target.fitted then { s.target with cells := memSet .target s.target.cells s.bus.addr.toNat (Config.programFn (cell s s.bus.addr) s.bus.dout) } else s.target := by
  unfold pulseDeassert program
  by_cases h : s.target.fitted = true <;> simp [h, cell]
@[simp] theorem pulseDeassert_ev (p : Profile) : (pulseDeassert p s).ev =
    s.ev ++ [.programCycle s.bus.addr s.bus.dout] := by
  unfold pulseDeassert
  rw [program_rest]
  rfl
@[simp] theorem pulseDeassert_unwritten (p : Profile) : (pulseDeassert p s).unwritten = s.unwritten := by
  unfold pulseDeassert
  rw [program_rest]
  rfl
@[simp] theorem pulseDeassert_draws (p : Profile) : (pulseDeassert p s).draws = s.draws := by
  unfold pulseDeassert
  rw [program_rest]
  rfl
@[simp] theorem pulseDeassert_env (p : Profile) : (pulseDeassert p s).env = s.env := by
  unfold pulseDeassert
  rw [program_rest]
  rfl
@[simp] theorem occ_pulseDeassert (p : Profile) : occ (pulseDeassert p s) = occ s := by simp [occ]
@[simp] theorem oldest_pulseDeassert (p : Profile) : oldest (pulseDeassert p s) = oldest s := by simp [oldest, slot]
@[simp] theorem activeProfile_pulseDeassert (p : Profile) : activeProfile (pulseDeassert p s) = activeProfile s := by simp [activeProfile]

/-! `loopTop` -/

@[simp] theorem loopTop_cfg (op : Op) (q : Seq) : (loopTop op q s).cfg = s.cfg := by
  rcases loopTop_cases op q s with ⟨-, e⟩ | ⟨-, e⟩ <;> rw [e] <;> rfl
@[simp] theorem loopTop_fifo (op : Op) (q : Seq) : (loopTop op q s).fifo = s.fifo := by
  rcases loopTop_cases op q s with ⟨-, e⟩ | ⟨-, e⟩ <;> rw [e] <;> rfl
@[simp] theorem loopTop_fcPause (op : Op) (q : Seq) : (loopTop op q s).fcPause = s.fcPause := by
  rcases loopTop_cases op q s with ⟨-, e⟩ | ⟨-, e⟩ <;> rw [e] <;> rfl
@[simp] theorem loopTop_activeFlag (op : Op) (q : Seq) : (loopTop op q s).activeFlag = s.activeFlag := by
  rcases loopTop_cases op q s with ⟨-, e⟩ | ⟨-, e⟩ <;> rw [e] <;> rfl
@[simp] theorem loopTop_seq (op : Op) (q : Seq) : (loopTop op q s).seq = if s.activeFlag then q else .abort := by
  rcases loopTop_cases op q s with ⟨h, e⟩ | ⟨h, e⟩ <;> rw [e] <;> simp [h]
@[simp] theorem loopTop_pulsing (op : Op) (q : Seq) : (loopTop op q s).pulsing = s.pulsing := by
  rcases loopTop_cases op q s with ⟨-, e⟩ | ⟨-, e⟩ <;> rw [e] <;> rfl
@[simp] theorem loopTop_regs (op : Op) (q : Seq) : (loopTop op q s).regs =
    if s.activeFlag then s.regs else { s.regs with abortOp := op } := by
  rcases loopTop_cases op q s with ⟨h, e⟩ | ⟨h, e⟩ <;> rw [e] <;> simp [h]
@[simp] theorem loopTop_activeProf (op : Op) (q : Seq) : (loopTop op q s).activeProf = s.activeProf := by
  rcases loopTop_cases op q s with ⟨-, e⟩ | ⟨-, e⟩ <;> rw [e] <;> rfl
@[simp] theorem loopTop_bus (op : Op) (q : Seq) : (loopTop op q s).bus = s.bus := by
  rcases loopTop_cases op q s with ⟨-, e⟩ | ⟨-, e⟩ <;> rw [e] <;> rfl
@[simp] theorem loopTop_busy (op : Op) (q : Seq) : (loopTop op q s).busy = s.busy := by
  rcases loopTop_cases op q s with ⟨-, e⟩ | ⟨-, e⟩ <;> rw [e] <;> rfl
@[simp] theorem loopTop_ovfSticky (op : Op) (q : Seq) : (loopTop op q s).ovfSticky = s.ovfSticky := by
  rcases loopTop_cases op q s with ⟨-, e⟩ | ⟨-, e⟩ <;> rw [e] <;> rfl
@[simp] theorem loopTop_udfSticky (op : Op) (q : Seq) : (loopTop op q s).udfSticky = s.udfSticky := by
  rcases loopTop_cases op q s with ⟨-, e⟩ | ⟨-, e⟩ <;> rw [e] <;> rfl
@[simp] theorem loopTop_udfWait (op : Op) (q : Seq) : (loopTop op q s).udfWait = s.udfWait := by
  rcases loopTop_cases op q s with ⟨-, e⟩ | ⟨-, e⟩ <;> rw [e] <;> rfl
@[simp] theorem loopTop_out (op : Op) (q : Seq) : (loopTop op q s).out = s.out := by
  rcases loopTop_cases op q s with ⟨-, e⟩ | ⟨-, e⟩ <;> rw [e] <;> rfl
@[simp] theorem loopTop_target (op : Op) (q : Seq) : (loopTop op q s).target = s.target := by
  rcases loopTop_cases op q s with ⟨-, e⟩ | ⟨-, e⟩ <;> rw [e] <;> rfl
@[simp] theorem loopTop_ev (op : Op) (q : Seq) : (loopTop op q s).ev = s.ev := by
  rcases loopTop_cases op q s with ⟨-, e⟩ | ⟨-, e⟩ <;> rw [e] <;> rfl
@[simp] theorem loopTop_unwritten (op : Op) (q : Seq) : (loopTop op q s).unwritten =
    if s.activeFlag then s.unwritten else s.unwritten.filter (fun x => x != .abortOp) := by
  rcases loopTop_cases op q s with ⟨h, e⟩ | ⟨h, e⟩ <;> rw [e] <;> simp [h]
@[simp] theorem loopTop_draws (op : Op) (q : Seq) : (loopTop op q s).draws = s.draws := by
  rcases loopTop_cases op q s with ⟨-, e⟩ | ⟨-, e⟩ <;> rw [e] <;> rfl
@[simp] theorem loopTop_env (op : Op) (q : Seq) : (loopTop op q s).env = s.env := by
  rcases loopTop_cases op q s with ⟨-, e⟩ | ⟨-, e⟩ <;> rw [e] <;> rfl
@[simp] theorem occ_loopTop (op : Op) (q : Seq) : occ (loopTop op q s) = occ s := by simp [occ]
@[simp] theorem oldest_loopTop (op : Op) (q : Seq) : oldest (loopTop op q s) = oldest s := by simp [oldest, slot]
@[simp] theorem activeProfile_loopTop (op : Op) (q : Seq) : activeProfile (loopTop op q s) = activeProfile s := by simp [activeProfile]
@[simp] theorem cell_loopTop (op : Op) (q : Seq) (a' : Addr) : cell (loopTop op q s) a' = cell s a' := by simp [cell]

/-! `cursorNext` -/

@[simp] theorem cursorNext_cfg (p : Profile) (top last : Seq) : (cursorNext p top last s).cfg = s.cfg := by
  rcases cursorNext_cases p top last s with ⟨-, e⟩ | ⟨-, e⟩ <;> rw [e] <;> rfl
@[simp] theorem cursorNext_fifo (p : Profile) (top last : Seq) : (cursorNext p top last s).fifo = s.fifo := by
  rcases cursorNext_cases p top last s with ⟨-, e⟩ | ⟨-, e⟩ <;> rw [e] <;> rfl
@[simp] theorem cursorNext_fcPause (p : Profile) (top last : Seq) : (cursorNext p top last s).fcPause =
    s.fcPause := by
  rcases cursorNext_cases p top last s with ⟨-, e⟩ | ⟨-, e⟩ <;> rw [e] <;> rfl
@[simp] theorem cursorNext_activeFlag (p : Profile) (top last : Seq) : (cursorNext p top last s).activeFlag =
    s.activeFlag := by
  rcases cursorNext_cases p top last s with ⟨-, e⟩ | ⟨-, e⟩ <;> rw [e] <;> rfl
@[simp] theorem cursorNext_seq (p : Profile) (top last : Seq) : (cursorNext p top last s).seq =
    if s.regs.cursor.toNat + 1 = p.size then last else top := by
  rcases cursorNext_cases p top last s with ⟨h, e⟩ | ⟨h, e⟩ <;> rw [e] <;> simp [h]
@[simp] theorem cursorNext_pulsing (p : Profile) (top last : Seq) : (cursorNext p top last s).pulsing =
    s.pulsing := by
  rcases cursorNext_cases p top last s with ⟨-, e⟩ | ⟨-, e⟩ <;> rw [e] <;> rfl
@[simp] theorem cursorNext_regs (p : Profile) (top last : Seq) : (cursorNext p top last s).regs =
    if s.regs.cursor.toNat + 1 = p.size then s.regs else { s.regs with cursor := BitVec.ofNat 16 (s.regs.cursor.toNat + 1) } := by
  rcases cursorNext_cases p top last s with ⟨h, e⟩ | ⟨h, e⟩ <;> rw [e] <;> simp [h]
@[simp] theorem cursorNext_activeProf (p : Profile) (top last : Seq) : (cursorNext p top last s).activeProf =
    s.activeProf := by
  rcases cursorNext_cases p top last s with ⟨-, e⟩ | ⟨-, e⟩ <;> rw [e] <;> rfl
@[simp] theorem cursorNext_bus (p : Profile) (top last : Seq) : (cursorNext p top last s).bus = s.bus := by
  rcases cursorNext_cases p top last s with ⟨-, e⟩ | ⟨-, e⟩ <;> rw [e] <;> rfl
@[simp] theorem cursorNext_busy (p : Profile) (top last : Seq) : (cursorNext p top last s).busy = s.busy := by
  rcases cursorNext_cases p top last s with ⟨-, e⟩ | ⟨-, e⟩ <;> rw [e] <;> rfl
@[simp] theorem cursorNext_ovfSticky (p : Profile) (top last : Seq) : (cursorNext p top last s).ovfSticky =
    s.ovfSticky := by
  rcases cursorNext_cases p top last s with ⟨-, e⟩ | ⟨-, e⟩ <;> rw [e] <;> rfl
@[simp] theorem cursorNext_udfSticky (p : Profile) (top last : Seq) : (cursorNext p top last s).udfSticky =
    s.udfSticky := by
  rcases cursorNext_cases p top last s with ⟨-, e⟩ | ⟨-, e⟩ <;> rw [e] <;> rfl
@[simp] theorem cursorNext_udfWait (p : Profile) (top last : Seq) : (cursorNext p top last s).udfWait =
    s.udfWait := by
  rcases cursorNext_cases p top last s with ⟨-, e⟩ | ⟨-, e⟩ <;> rw [e] <;> rfl
@[simp] theorem cursorNext_out (p : Profile) (top last : Seq) : (cursorNext p top last s).out = s.out := by
  rcases cursorNext_cases p top last s with ⟨-, e⟩ | ⟨-, e⟩ <;> rw [e] <;> rfl
@[simp] theorem cursorNext_target (p : Profile) (top last : Seq) : (cursorNext p top last s).target = s.target := by
  rcases cursorNext_cases p top last s with ⟨-, e⟩ | ⟨-, e⟩ <;> rw [e] <;> rfl
@[simp] theorem cursorNext_ev (p : Profile) (top last : Seq) : (cursorNext p top last s).ev = s.ev := by
  rcases cursorNext_cases p top last s with ⟨-, e⟩ | ⟨-, e⟩ <;> rw [e] <;> rfl
@[simp] theorem cursorNext_unwritten (p : Profile) (top last : Seq) : (cursorNext p top last s).unwritten =
    if s.regs.cursor.toNat + 1 = p.size then s.unwritten else s.unwritten.filter (fun x => x != .cursor) := by
  rcases cursorNext_cases p top last s with ⟨h, e⟩ | ⟨h, e⟩ <;> rw [e] <;> simp [h]
@[simp] theorem cursorNext_draws (p : Profile) (top last : Seq) : (cursorNext p top last s).draws = s.draws := by
  rcases cursorNext_cases p top last s with ⟨-, e⟩ | ⟨-, e⟩ <;> rw [e] <;> rfl
@[simp] theorem cursorNext_env (p : Profile) (top last : Seq) : (cursorNext p top last s).env = s.env := by
  rcases cursorNext_cases p top last s with ⟨-, e⟩ | ⟨-, e⟩ <;> rw [e] <;> rfl
@[simp] theorem occ_cursorNext (p : Profile) (top last : Seq) : occ (cursorNext p top last s) = occ s := by simp [occ]
@[simp] theorem oldest_cursorNext (p : Profile) (top last : Seq) : oldest (cursorNext p top last s) = oldest s := by simp [oldest, slot]
@[simp] theorem activeProfile_cursorNext (p : Profile) (top last : Seq) : activeProfile (cursorNext p top last s) = activeProfile s := by simp [activeProfile]
@[simp] theorem cell_cursorNext (p : Profile) (top last : Seq) (a' : Addr) : cell (cursorNext p top last s) a' = cell s a' := by simp [cell]

/-! `popData` -/

@[simp] theorem popData_cfg : (popData s).cfg = s.cfg := rfl
@[simp] theorem popData_fcPause : (popData s).fcPause = fcNext s.cfg.fcPolicy (occ (popData s)) s.fcPause := rfl
@[simp] theorem popData_activeFlag : (popData s).activeFlag = s.activeFlag := rfl
@[simp] theorem popData_seq : (popData s).seq = s.seq := rfl
@[simp] theorem popData_pulsing : (popData s).pulsing = s.pulsing := rfl
@[simp] theorem popData_regs : (popData s).regs = s.regs := rfl
@[simp] theorem popData_activeProf : (popData s).activeProf = s.activeProf := rfl
@[simp] theorem popData_bus : (popData s).bus = s.bus := rfl
@[simp] theorem popData_busy : (popData s).busy = s.busy := rfl
@[simp] theorem popData_ovfSticky : (popData s).ovfSticky = s.ovfSticky := rfl
@[simp] theorem popData_udfSticky : (popData s).udfSticky = s.udfSticky := rfl
@[simp] theorem popData_udfWait : (popData s).udfWait = s.udfWait := rfl
@[simp] theorem popData_out : (popData s).out = s.out := rfl
@[simp] theorem popData_target : (popData s).target = s.target := rfl
@[simp] theorem popData_ev : (popData s).ev = s.ev ++ [.pop (oldest s)] := rfl
@[simp] theorem popData_unwritten : (popData s).unwritten = s.unwritten := rfl
@[simp] theorem popData_draws : (popData s).draws = s.draws := rfl
@[simp] theorem popData_env : (popData s).env = s.env := rfl
@[simp] theorem activeProfile_popData : activeProfile (popData s) = activeProfile s := by simp [activeProfile]
@[simp] theorem cell_popData (a' : Addr) : cell (popData s) a' = cell s a' := by simp [cell]

/-! `popResume` -/

@[simp] theorem popResume_cfg : (popResume s).cfg = s.cfg := rfl
@[simp] theorem popResume_fifo : (popResume s).fifo = s.fifo := rfl
@[simp] theorem popResume_fcPause : (popResume s).fcPause = s.fcPause := rfl
@[simp] theorem popResume_activeFlag : (popResume s).activeFlag = s.activeFlag := rfl
@[simp] theorem popResume_seq : (popResume s).seq = s.seq := rfl
@[simp] theorem popResume_pulsing : (popResume s).pulsing = s.pulsing := rfl
@[simp] theorem popResume_regs : (popResume s).regs = s.regs := rfl
@[simp] theorem popResume_activeProf : (popResume s).activeProf = s.activeProf := rfl
@[simp] theorem popResume_bus : (popResume s).bus = s.bus := rfl
@[simp] theorem popResume_busy : (popResume s).busy = s.busy := rfl
@[simp] theorem popResume_ovfSticky : (popResume s).ovfSticky = s.ovfSticky := rfl
@[simp] theorem popResume_udfSticky : (popResume s).udfSticky = s.udfSticky := rfl
@[simp] theorem popResume_udfWait : (popResume s).udfWait = false := rfl
@[simp] theorem popResume_out : (popResume s).out = s.out := rfl
@[simp] theorem popResume_target : (popResume s).target = s.target := rfl
@[simp] theorem popResume_ev : (popResume s).ev = s.ev := rfl
@[simp] theorem popResume_unwritten : (popResume s).unwritten = s.unwritten := rfl
@[simp] theorem popResume_draws : (popResume s).draws = s.draws := rfl
@[simp] theorem popResume_env : (popResume s).env = s.env := rfl
@[simp] theorem occ_popResume : occ (popResume s) = occ s := by simp [occ]
@[simp] theorem oldest_popResume : oldest (popResume s) = oldest s := by simp [oldest, slot]
@[simp] theorem activeProfile_popResume : activeProfile (popResume s) = activeProfile s := by simp [activeProfile]
@[simp] theorem cell_popResume (a' : Addr) : cell (popResume s) a' = cell s a' := by simp [cell]

/-! `popUnderflow` -/

@[simp] theorem popUnderflow_cfg : (popUnderflow s).cfg = s.cfg := rfl
@[simp] theorem popUnderflow_fifo : (popUnderflow s).fifo = s.fifo := rfl
@[simp] theorem popUnderflow_fcPause : (popUnderflow s).fcPause = s.fcPause := rfl
@[simp] theorem popUnderflow_activeFlag : (popUnderflow s).activeFlag = s.activeFlag := rfl
@[simp] theorem popUnderflow_seq : (popUnderflow s).seq = s.seq := rfl
@[simp] theorem popUnderflow_pulsing : (popUnderflow s).pulsing = s.pulsing := rfl
@[simp] theorem popUnderflow_regs : (popUnderflow s).regs = s.regs := rfl
@[simp] theorem popUnderflow_activeProf : (popUnderflow s).activeProf = s.activeProf := rfl
@[simp] theorem popUnderflow_bus : (popUnderflow s).bus = s.bus := rfl
@[simp] theorem popUnderflow_busy : (popUnderflow s).busy = s.busy := rfl
@[simp] theorem popUnderflow_ovfSticky : (popUnderflow s).ovfSticky = s.ovfSticky := rfl
@[simp] theorem popUnderflow_udfSticky : (popUnderflow s).udfSticky = true := rfl
@[simp] theorem popUnderflow_udfWait : (popUnderflow s).udfWait = true := rfl
@[simp] theorem popUnderflow_out : (popUnderflow s).out = s.out := rfl
@[simp] theorem popUnderflow_target : (popUnderflow s).target = s.target := rfl
@[simp] theorem popUnderflow_ev : (popUnderflow s).ev = s.ev ++ [.underflow] := rfl
@[simp] theorem popUnderflow_unwritten : (popUnderflow s).unwritten = s.unwritten := rfl
@[simp] theorem popUnderflow_draws : (popUnderflow s).draws = s.draws := rfl
@[simp] theorem popUnderflow_env : (popUnderflow s).env = s.env := rfl
@[simp] theorem occ_popUnderflow : occ (popUnderflow s) = occ s := by simp [occ]
@[simp] theorem oldest_popUnderflow : oldest (popUnderflow s) = oldest s := by simp [oldest, slot]
@[simp] theorem activeProfile_popUnderflow : activeProfile (popUnderflow s) = activeProfile s := by simp [activeProfile]
@[simp] theorem cell_popUnderflow (a' : Addr) : cell (popUnderflow s) a' = cell s a' := by simp [cell]

/-! `cancel` -/

@[simp] theorem cancel_cfg : (cancel s).cfg = s.cfg := rfl
@[simp] theorem cancel_fifo : (cancel s).fifo = s.fifo := rfl
@[simp] theorem cancel_fcPause : (cancel s).fcPause = s.fcPause := rfl
@[simp] theorem cancel_activeFlag : (cancel s).activeFlag = false := rfl
@[simp] theorem cancel_seq : (cancel s).seq = s.seq := rfl
@[simp] theorem cancel_pulsing : (cancel s).pulsing = s.pulsing := rfl
@[simp] theorem cancel_regs : (cancel s).regs = s.regs := rfl
@[simp] theorem cancel_activeProf : (cancel s).activeProf = s.activeProf := rfl
@[simp] theorem cancel_bus : (cancel s).bus = s.bus := rfl
@[simp] theorem cancel_busy : (cancel s).busy = s.busy := rfl
@[simp] theorem cancel_ovfSticky : (cancel s).ovfSticky = s.ovfSticky := rfl
@[simp] theorem cancel_udfSticky : (cancel s).udfSticky = s.udfSticky := rfl
@[simp] theorem cancel_udfWait : (cancel s).udfWait = s.udfWait := rfl
@[simp] theorem cancel_out : (cancel s).out = s.out := rfl
@[simp] theorem cancel_target : (cancel s).target = s.target := rfl
@[simp] theorem cancel_ev : (cancel s).ev = s.ev ++ [.cancel] := rfl
@[simp] theorem cancel_unwritten : (cancel s).unwritten = s.unwritten := rfl
@[simp] theorem cancel_draws : (cancel s).draws = s.draws := rfl
@[simp] theorem cancel_env : (cancel s).env = s.env := rfl
@[simp] theorem occ_cancel : occ (cancel s) = occ s := by simp [occ]
@[simp] theorem oldest_cancel : oldest (cancel s) = oldest s := by simp [oldest, slot]
@[simp] theorem activeProfile_cancel : activeProfile (cancel s) = activeProfile s := by simp [activeProfile]
@[simp] theorem cell_cancel (a' : Addr) : cell (cancel s) a' = cell s a' := by simp [cell]

/-! `clear` -/

@[simp] theorem clear_cfg : (clear s).cfg = s.cfg := rfl
@[simp] theorem clear_fifo : (clear s).fifo = { slots := [], head := 0, tail := s.cfg.capacity - 1 } := rfl
@[simp] theorem clear_fcPause : (clear s).fcPause = fcNext s.cfg.fcPolicy (occ (clear s)) s.fcPause := rfl
@[simp] theorem clear_activeFlag : (clear s).activeFlag = s.activeFlag := rfl
@[simp] theorem clear_seq : (clear s).seq = s.seq := rfl
@[simp] theorem clear_pulsing : (clear s).pulsing = s.pulsing := rfl
@[simp] theorem clear_regs : (clear s).regs = s.regs := rfl
@[simp] theorem clear_activeProf : (clear s).activeProf = s.activeProf := rfl
@[simp] theorem clear_bus : (clear s).bus = s.bus := rfl
@[simp] theorem clear_busy : (clear s).busy = s.busy := rfl
@[simp] theorem clear_ovfSticky : (clear s).ovfSticky = s.ovfSticky := rfl
@[simp] theorem clear_udfSticky : (clear s).udfSticky = s.udfSticky := rfl
@[simp] theorem clear_udfWait : (clear s).udfWait = s.udfWait := rfl
@[simp] theorem clear_out : (clear s).out = s.out := rfl
@[simp] theorem clear_target : (clear s).target = s.target := rfl
@[simp] theorem clear_ev : (clear s).ev = s.ev := rfl
@[simp] theorem clear_unwritten : (clear s).unwritten = s.unwritten := rfl
@[simp] theorem clear_draws : (clear s).draws = s.draws := rfl
@[simp] theorem clear_env : (clear s).env = s.env := rfl
@[simp] theorem activeProfile_clear : activeProfile (clear s) = activeProfile s := by simp [activeProfile]
@[simp] theorem cell_clear (a' : Addr) : cell (clear s) a' = cell s a' := by simp [cell]

/-! `doneStep` -/

@[simp] theorem doneStep_cfg : (doneStep s).cfg = s.cfg := rfl
@[simp] theorem doneStep_fifo : (doneStep s).fifo = { slots := [], head := 0, tail := s.cfg.capacity - 1 } := rfl
@[simp] theorem doneStep_fcPause : (doneStep s).fcPause = (clear s).fcPause := rfl
@[simp] theorem doneStep_activeFlag : (doneStep s).activeFlag = false := rfl
@[simp] theorem doneStep_seq : (doneStep s).seq = .idle := rfl
@[simp] theorem doneStep_pulsing : (doneStep s).pulsing = s.pulsing := rfl
@[simp] theorem doneStep_regs : (doneStep s).regs = s.regs := rfl
@[simp] theorem doneStep_activeProf : (doneStep s).activeProf = s.activeProf := rfl
@[simp] theorem doneStep_bus : (doneStep s).bus = s.bus := rfl
@[simp] theorem doneStep_busy : (doneStep s).busy = false := rfl
@[simp] theorem doneStep_ovfSticky : (doneStep s).ovfSticky = s.ovfSticky := rfl
@[simp] theorem doneStep_udfSticky : (doneStep s).udfSticky = s.udfSticky := rfl
@[simp] theorem doneStep_udfWait : (doneStep s).udfWait = s.udfWait := rfl
@[simp] theorem doneStep_out : (doneStep s).out = s.out := rfl
@[simp] theorem doneStep_target : (doneStep s).target = s.target := rfl
@[simp] theorem doneStep_ev : (doneStep s).ev = s.ev := rfl
@[simp] theorem doneStep_unwritten : (doneStep s).unwritten = s.unwritten := rfl
@[simp] theorem doneStep_draws : (doneStep s).draws = s.draws := rfl
@[simp] theorem doneStep_env : (doneStep s).env = { s.env with busyFell := s.env.busyFell || s.busy } := rfl
@[simp] theorem activeProfile_doneStep : activeProfile (doneStep s) = activeProfile s := by simp [activeProfile]
@[simp] theorem cell_doneStep (a' : Addr) : cell (doneStep s) a' = cell s a' := by simp [cell]

/-! `selectProfile`: three fields can change -/

@[simp] theorem selectProfile_cfg (k : Byte) : (selectProfile k s).cfg = s.cfg := by
  rcases selectProfile_cases k s with e | ⟨_, _, _, _, e⟩ <;> simp [e]
@[simp] theorem selectProfile_fifo (k : Byte) : (selectProfile k s).fifo = s.fifo := by
  rcases selectProfile_cases k s with e | ⟨_, _, _, _, e⟩ <;> simp [e]
@[simp] theorem selectProfile_fcPause (k : Byte) : (selectProfile k s).fcPause = s.fcPause := by
  rcases selectProfile_cases k s with e | ⟨_, _, _, _, e⟩ <;> simp [e]
@[simp] theorem selectProfile_activeFlag (k : Byte) : (selectProfile k s).activeFlag = s.activeFlag := by
  rcases selectProfile_cases k s with e | ⟨_, _, _, _, e⟩ <;> simp [e]
@[simp] theorem selectProfile_seq (k : Byte) : (selectProfile k s).seq = s.seq := by
  rcases selectProfile_cases k s with e | ⟨_, _, _, _, e⟩ <;> simp [e]
@[simp] theorem selectProfile_pulsing (k : Byte) : (selectProfile k s).pulsing = s.pulsing := by
  rcases selectProfile_cases k s with e | ⟨_, _, _, _, e⟩ <;> simp [e]
@[simp] theorem selectProfile_regs (k : Byte) : (selectProfile k s).regs = s.regs := by
  rcases selectProfile_cases k s with e | ⟨_, _, _, _, e⟩ <;> simp [e]
@[simp] theorem selectProfile_busy (k : Byte) : (selectProfile k s).busy = s.busy := by
  rcases selectProfile_cases k s with e | ⟨_, _, _, _, e⟩ <;> simp [e]
@[simp] theorem selectProfile_ovfSticky (k : Byte) : (selectProfile k s).ovfSticky = s.ovfSticky := by
  rcases selectProfile_cases k s with e | ⟨_, _, _, _, e⟩ <;> simp [e]
@[simp] theorem selectProfile_udfSticky (k : Byte) : (selectProfile k s).udfSticky = s.udfSticky := by
  rcases selectProfile_cases k s with e | ⟨_, _, _, _, e⟩ <;> simp [e]
@[simp] theorem selectProfile_udfWait (k : Byte) : (selectProfile k s).udfWait = s.udfWait := by
  rcases selectProfile_cases k s with e | ⟨_, _, _, _, e⟩ <;> simp [e]
@[simp] theorem selectProfile_target (k : Byte) : (selectProfile k s).target = s.target := by
  rcases selectProfile_cases k s with e | ⟨_, _, _, _, e⟩ <;> simp [e]
@[simp] theorem selectProfile_ev (k : Byte) : (selectProfile k s).ev = s.ev := by
  rcases selectProfile_cases k s with e | ⟨_, _, _, _, e⟩ <;> simp [e]
@[simp] theorem selectProfile_unwritten (k : Byte) : (selectProfile k s).unwritten = s.unwritten := by
  rcases selectProfile_cases k s with e | ⟨_, _, _, _, e⟩ <;> simp [e]
@[simp] theorem selectProfile_draws (k : Byte) : (selectProfile k s).draws = s.draws := by
  rcases selectProfile_cases k s with e | ⟨_, _, _, _, e⟩ <;> simp [e]
@[simp] theorem selectProfile_env (k : Byte) : (selectProfile k s).env = s.env := by
  rcases selectProfile_cases k s with e | ⟨_, _, _, _, e⟩ <;> simp [e]
@[simp] theorem occ_selectProfile (k : Byte) : occ (selectProfile k s) = occ s := by simp [occ]

end Sys2Proof.Machine
end

