-- ==== Sys2Proof/Tests/Slice0.lean ====
section
/-! SUPPORT. Tests of single steps, whose expected results are the spec's (spec/95_test_vectors.md, spec/30_encoding.md),
and for every statement of Obligations.lean that has hypotheses a state that meets them. -/

namespace Sys2Proof.Tests

open Sys2Proof Sys2Proof.Machine

/-! ## The test configurations of spec/95_test_vectors.md section 0 -/

/-- Profile `P4`. -/
def p4 : Profile :=
  { size := 4, ctlIdle := ⟨.high, .high, .high⟩, ctlRead := ⟨.low, .low, .high⟩, ctlBlank := ⟨.low, .low, .high⟩
    ctlProg := ⟨.low, .high, .high⟩, pulseLine := .we, pulseLevel := .low, tPulse := 0
    ident := [0x50, 0x34], key := 0x30 }

/-- Profile `Q2`. -/
def q2 : Profile :=
  { size := 2, ctlIdle := ⟨.high, .hiZ, .high⟩, ctlRead := ⟨.low, .low, .high⟩, ctlBlank := ⟨.low, .low, .high⟩
    ctlProg := ⟨.low, .high, .high⟩, pulseLine := .ce, pulseLevel := .high, tPulse := 0
    ident := [0x51, 0x32], key := 0x31 }

/-- `P4` with one address. -/
def p1 : Profile := { p4 with size := 1 }

/-- CFG-8S. -/
def cfg8S : Config :=
  { variant := .singleFamily, capacity := 8, fcPolicy := .single 4, popPolicy := .block, sentinel := 0x30
    profiles := [p4], defaultProfile := 0, hasCancel := true, durations := ⟨0, 0, 0, 0, 0⟩ }

/-- CFG-8H. -/
def cfg8H : Config := { cfg8S with fcPolicy := .hysteresis 5 2 }

/-- CFG-B with the small FIFO of CFG-8S. -/
def cfgB : Config := { cfg8S with variant := .multiFamily, profiles := [p4, q2] }

/-- CFG-8S with `FailFast`. -/
def cfgF : Config := { cfg8S with popPolicy := .failFast }

/-- CFG-8S with the one-address profile. -/
def cfg1 : Config := { cfg8S with profiles := [p1] }

/-- A target with the given first bytes. -/
def tgt (l : List Byte) : Target :=
  { fitted := true, cells := (l.zipIdx.filter fun x => x.1 != 0xFF).map fun x => (x.2, x.1) }

/-- After reset, with the sequencer moved to `q` inside an operation. -/
def at' (c : Config) (q : Seq) (t : List Byte) : State :=
  { State.resetWith c 0 (tgt t) with seq := q, activeFlag := true, busy := true, unwritten := [] }

/-- The same with bytes in the FIFO from slot `h` on. -/
def withBytes (h : Nat) (bs : List Byte) (s : State) : State :=
  { s with fifo :=
    { slots := bs.zipIdx.foldl (fun m x => memSet .fifo m ((h + x.2) % s.cfg.capacity) x.1) []
      head := h, tail := (h + bs.length + s.cfg.capacity - 1) % s.cfg.capacity } }

/-! ## Well-formedness and decoding -/

/-- The one check: a command's code byte is no reserved one (30_encoding.md R123). -/
theorem test_reserved_with_command_code_refused : (Instr.reserved 0x31).wellFormed = false := by decide
theorem test_reserved_with_other_code_accepted : (Instr.reserved 0x39).wellFormed = true := by decide

/-! The frame words of 30_encoding.md R121, written out: the marker `0010_0100`, then the code byte. -/

theorem test_decode_read : decodeTableWord 16 0b0010010000110001 = some .read := by decide
theorem test_decode_write : decodeTableWord 16 0b0010010000110010 = some .write := by decide
theorem test_decode_blankCheck : decodeTableWord 16 0b0010010000110011 = some .blankCheck := by decide
theorem test_decode_identify : decodeTableWord 16 0b0010010000110100 = some .identify := by decide
theorem test_decode_setDeviceType : decodeTableWord 16 0b0010010000110101 = some .setDeviceType := by decide
theorem test_decode_initBaud : decodeTableWord 16 0b0010010001010101 = some .initBaud := by decide
/-- `'u'` is not InitBaud (30_encoding.md R122). -/
theorem test_decode_no_case_folding : decodeTableWord 16 0b0010010001110101 = some (.reserved 0x75) := by decide
/-- `"$$"` is a reserved frame (95_test_vectors.md R5). -/
theorem test_decode_marker_as_code : decodeTableWord 16 0b0010010000100100 = some (.reserved 0x24) := by decide
theorem test_decode_no_marker : decodeTableWord 16 0b0011001100110011 = none := by decide

/-! ## Well-formed configurations (42_bus_sequencer.md R231: both profiles pass) -/

theorem test_cfg8S_passes : cfg8S.failed = none := by decide
theorem test_cfgB_passes : cfgB.failed = none := by decide
/-- Two equal keys (42_bus_sequencer.md R231). -/
theorem test_equal_keys_refused : { cfgB with profiles := [p4, p4] }.failed = some .keys := by decide

/-- The bounds of 00_scope.md R8 and R9 at their last values, under either policy. -/
theorem test_capacity_and_watermark_bounds :
    { cfg8S with capacity := 3 }.passes .capacity = true ∧ { cfg8S with capacity := 2 }.passes .capacity = false ∧
    { cfg8S with fcPolicy := .single 6 }.passes .watermarks = true ∧
    { cfg8S with fcPolicy := .single 7 }.passes .watermarks = false ∧
    { cfg8S with fcPolicy := .single 0, capacity := 1 }.passes .watermarks = false ∧
    { cfg8S with fcPolicy := .hysteresis 6 1 }.passes .watermarks = true ∧
    { cfg8S with fcPolicy := .hysteresis 7 1 }.passes .watermarks = false ∧
    { cfg8S with fcPolicy := .hysteresis 6 0 }.passes .watermarks = false ∧
    { cfg8S with fcPolicy := .hysteresis 2 2 }.passes .watermarks = true ∧
    { cfg8S with fcPolicy := .hysteresis 2 3 }.passes .watermarks = false := by decide

/-- The bounds on the profile table of 00_scope.md R12, R13 and 42_bus_sequencer.md R231 at their last values. -/
theorem test_profile_table_bounds :
    { cfg8S with profiles := [] }.passes .profileCount = false ∧
    { cfg8S with profiles := [p4, q2] }.passes .profileCount = false ∧
    { cfgB with profiles := [] }.passes .profileCount = false ∧ { cfgB with profiles := [p4] }.passes .profileCount = true ∧
    { cfgB with defaultProfile := 1 }.passes .defaultProfile = true ∧
    { cfgB with defaultProfile := 2 }.passes .defaultProfile = false ∧
    { cfg8S with profiles := [{ p4 with size := 0 }] }.passes .profileSize = false ∧ cfg1.passes .profileSize = true ∧
    { cfg8S with profiles := [{ p4 with size := 65536 }] }.passes .profileSize = true ∧
    { cfg8S with profiles := [{ p4 with size := 65537 }] }.passes .profileSize = false ∧
    { cfg8S with profiles := [{ p4 with pulseLevel := .hiZ }] }.passes .pulseLevel = false ∧
    { cfg8S with profiles := [{ p4 with pulseLevel := .high }] }.passes .pulsePattern = false ∧
    { cfgB with profiles := [q2, { q2 with size := 1 }] }.passes .keys = false ∧
    { cfg8S with profiles := [q2, q2] }.passes .keys = true := by decide

/-! ## One step of each command -/

/-- 95_test_vectors.md S7: the first dump value, with its row prefix. -/
theorem test_read_first_value :
    ∃ t, exec .read { at' cfg8S .rdSample [0x12, 0xAB] with bus := ⟨0, .input, 0, p4.ctlRead⟩ } = .next t ∧
      t.out = [0x30, 0x30, 0x30, 0x30, 0x3A, 0x20, 0x31, 0x32, 0x20] ∧ t.seq = .rdTop ∧ t.regs.cursor = 1 :=
  ⟨_, rfl, by decide⟩

/-- 95_test_vectors.md S7: the last one ends the line. -/
theorem test_read_last_value :
    ∃ t, exec .read { at' cfg8S .rdSample [0x12, 0xAB, 0x00, 0x7F] with
        bus := ⟨3, .input, 0, p4.ctlRead⟩, regs := ⟨0, 3, 0, 0, 0, 0, .read⟩ } = .next t ∧
      t.out = [0x37, 0x46, 0x0A] ∧ t.seq = .rdEnd :=
  ⟨_, rfl, by decide⟩

/-- 95_test_vectors.md section 2.4: `'7'`, `'f'` spell 0x7F; the programming pattern of P4 is (L, H, H). -/
theorem test_write_drive :
    ∃ t, exec .write { at' cfg8S .wrDrive [] with regs := ⟨0, 3, 0x37, 0x66, 0, 0, .read⟩ } = .next t ∧
      t.bus = ⟨3, .output, 0x7F, ⟨.low, .high, .high⟩⟩ ∧ t.seq = .wrPulse :=
  ⟨_, rfl, by decide⟩

/-- 95_test_vectors.md PC1: the pulse takes WE to L and back, and the erased cell holds the byte after it. -/
theorem test_write_pulse :
    (∃ t, exec .write { at' cfg8S .wrPulse [] with bus := ⟨0, .output, 0x12, p4.ctlProg⟩ } = .next t ∧
      t.bus.ctl = ⟨.low, .high, .low⟩ ∧ t.pulsing = true) ∧
    ∃ t, exec .write { at' cfg8S .wrPulse [] with
        bus := ⟨0, .output, 0x12, ⟨.low, .high, .low⟩⟩, pulsing := true } = .next t ∧
      t.bus.ctl = ⟨.low, .high, .high⟩ ∧ t.target.cells = [(0, 0x12)] ∧ t.seq = .wrTop ∧ t.regs.cursor = 1 :=
  ⟨⟨_, rfl, by decide⟩, ⟨_, rfl, by decide⟩⟩

/-- 95_test_vectors.md S7: the failure text for address 2 with byte 0x3C, and the safe state of P4. -/
theorem test_blankCheck_fails :
    ∃ t, exec .blankCheck { at' cfg8S .bcSample [0xFF, 0xFF, 0x3C] with
        bus := ⟨2, .input, 0, p4.ctlBlank⟩, regs := ⟨0, 2, 0, 0, 0, 0, .read⟩ } = .next t ∧
      t.out = [0x45, 0x72, 0x61, 0x73, 0x65, 0x20, 0x63, 0x68, 0x65, 0x63, 0x6B, 0x20, 0x66, 0x61, 0x69, 0x6C,
        0x20, 0x61, 0x74, 0x20, 0x61, 0x64, 0x64, 0x72, 0x65, 0x73, 0x73, 0x20, 0x30, 0x78, 0x30, 0x30, 0x30,
        0x32, 0x20, 0x3D, 0x20, 0x30, 0x78, 0x33, 0x43, 0x0A] ∧
      t.bus.ctl = ⟨.high, .high, .high⟩ ∧ t.seq = .done :=
  ⟨_, rfl, by decide⟩

/-- An erased byte advances the scan without output (43_commands.md R282). -/
theorem test_blankCheck_passes :
    ∃ t, exec .blankCheck { at' cfg8S .bcSample [] with bus := ⟨0, .input, 0, p4.ctlBlank⟩ } = .next t ∧
      t.out = [] ∧ t.seq = .bcTop ∧ t.regs.cursor = 1 :=
  ⟨_, rfl, by decide⟩

/-- 95_test_vectors.md S7: "Read aborted\n", "Write aborted\n" and "BlankCheck aborted\n". -/
theorem test_abort_texts :
    textAborted .read = [0x52, 0x65, 0x61, 0x64, 0x20, 0x61, 0x62, 0x6F, 0x72, 0x74, 0x65, 0x64, 0x0A] ∧
    textAborted .write = [0x57, 0x72, 0x69, 0x74, 0x65, 0x20, 0x61, 0x62, 0x6F, 0x72, 0x74, 0x65, 0x64, 0x0A] ∧
    textAborted .blankCheck = [0x42, 0x6C, 0x61, 0x6E, 0x6B, 0x43, 0x68, 0x65, 0x63, 0x6B, 0x20, 0x61, 0x62, 0x6F, 0x72,
      0x74, 0x65, 0x64, 0x0A] := by decide

/-- 95_test_vectors.md Program 3: Identify emits `50 34`. -/
theorem test_identify : ∃ t, exec .identify (at' cfgB .ident []) = .next t ∧ t.out = [0x50, 0x34] ∧ t.seq = .done :=
  ⟨_, rfl, by decide⟩

/-- 95_test_vectors.md Program 3: the key `31` selects Q2, drives (H, Z, H) and reports "OK". -/
theorem test_setDeviceType_known_key :
    ∃ t, exec .setDeviceType (withBytes 7 [0x31] (at' cfgB .stKey [])) = .next t ∧ t.activeProf = 1 ∧
      t.bus.ctl = ⟨.high, .hiZ, .high⟩ ∧ t.out = [0x4F, 0x4B] ∧ t.fifo.head = 0 ∧ t.seq = .done :=
  ⟨_, rfl, by decide⟩

/-- An unknown key changes nothing and reports nothing (43_commands.md R311). -/
theorem test_setDeviceType_unknown_key :
    ∃ t, exec .setDeviceType (withBytes 7 [0x32] (at' cfgB .stKey [])) = .next t ∧ t.activeProf = 0 ∧
      t.bus.ctl = ⟨.high, .high, .high⟩ ∧ t.out = [] ∧ t.seq = .done :=
  ⟨_, rfl, by decide⟩

/-- 30_encoding.md R131: "Already init". -/
theorem test_initBaud :
    ∃ t, exec .initBaud (at' cfg8S .baud []) = .next t ∧ t.seq = .done ∧
      t.out = [0x41, 0x6C, 0x72, 0x65, 0x61, 0x64, 0x79, 0x20, 0x69, 0x6E, 0x69, 0x74] :=
  ⟨_, rfl, by decide⟩

/-- A reserved code is recorded and goes straight to DONE (41_dispatcher.md R204, R205). -/
theorem test_reserved :
    ∃ t, exec (.reserved 0x39) (at' cfg8S .dispatch []) = .next t ∧ t.ev = [.unknownCommand 0x39] ∧ t.seq = .done :=
  ⟨_, rfl, by decide⟩

/-- A placed frame is what the next step runs, also right after reset: `'$','1'` enters the loop of Read. -/
theorem test_first_instruction_after_reset :
    ∃ t, step (State.reset.withFetchWord 16 0x2431) = .next t ∧ t.seq = .rdTop ∧ t.regs.cursor = 0 :=
  ⟨_, rfl, rfl, rfl⟩

/-- 95_test_vectors.md F5: `tail` wraps from 7 to 0; F6, F7: `head` wraps. -/
theorem test_fifo_wraps :
    (pushAccept 0x4A (withBytes 3 [0x44, 0x45, 0x46, 0x47, 0x49] (at' cfg8S .idle []))).fifo.tail = 0 ∧
    occ (pushAccept 0x4A (withBytes 3 [0x44, 0x45, 0x46, 0x47, 0x49] (at' cfg8S .idle []))) = 6 ∧
    (popData (withBytes 7 [0x49, 0x4A] (at' cfg8S .idle []))).fifo.head = 0 := by decide

/-- 95_test_vectors.md FC2: at occupancy 6 the signal rises, and it is held between the marks. -/
theorem test_flow_hysteresis :
    fcNext (.hysteresis 5 2) 5 false = false ∧ fcNext (.hysteresis 5 2) 6 false = true ∧
    fcNext (.hysteresis 5 2) 2 true = true ∧ fcNext (.hysteresis 5 2) 1 true = false := by decide

/-! ## Witnesses

For every statement with hypotheses, inputs that meet them. -/

/-- The invariants of a state, from checks that can be decided. -/
theorem inv_intro {s : State} {p : Profile} (hw : s.cfg.failed = none) (hp : activeProfile s = some p)
    (h : MemoryOk s ∧ IndicesOk s ∧ FrameOk s ∧ BusyOk s ∧ FlowOk s ∧ WrittenOk s)
    (hl : s.activeProf < s.cfg.profiles.length) (hb : busAt p s) (hpu : s.pulsing = true → s.seq = .wrPulse) :
    Inv s := by
  obtain ⟨h1, h2, h3, h4, h5, h6⟩ := h
  refine ⟨h1, h2, ⟨wellFormed_of_failed hw, hl⟩, h3, h4, h5, ⟨fun q hq => ?_, hpu⟩, h6⟩
  rw [hp] at hq
  cases hq
  exact hb

theorem witness_DecodeInvertsEncode : Instr.setDeviceType.wellFormed = true ∧ (Instr.reserved 0xFF).wellFormed = true := by
  decide

theorem witness_DecodedFrameIsTheEncoding : decode [0x24, 0x00, 0x31] = .ok (.reserved 0x00, [0x31]) := by rfl

theorem witness_FrameWordsDecodeAsTabled :
    (0x30 : Byte) ∉ ([0x31, 0x32, 0x33, 0x34, 0x35, 0x55] : List Byte) ∧
    (0x36 : Byte) ∉ ([0x31, 0x32, 0x33, 0x34, 0x35, 0x55] : List Byte) ∧ (0x25 : Byte) ≠ 0x24 := by decide

theorem witness_PowerUpGivesResetValues :
    cfg8S.WellFormed ∧ cfgB.WellFormed ∧ cfgB.profiles[cfgB.defaultProfile]? = some p4 :=
  ⟨wellFormed_of_failed (by decide), wellFormed_of_failed (by decide), rfl⟩

theorem witness_IllFormedConfigIsRefused :
    (¬ ({ cfg8S with capacity := 5 } : Config).WellFormed) ∧
    powerUp { cfg8S with capacity := 5 } 0 Target.erased = .refused (.configRefused .watermarks) ∧
    cfg8H.fcPolicy = .hysteresis 5 2 ∧ cfg8S.fcPolicy = .single 4 ∧ cfg8S.variant = .singleFamily ∧
    cfgB.variant = .multiFamily ∧ cfgB.passes .pulseLevel = true ∧ p4.pulseLevel = .low ∧ q2.pulseLevel = .high ∧
    cfgB.profiles[0]? = some p4 ∧ cfgB.profiles[1]? = some q2 :=
  ⟨fun h => absurd (h .watermarks) (by decide), rfl, rfl, rfl, rfl, rfl, by decide, rfl, rfl, rfl, rfl⟩

theorem witness_ResetMeetsEveryInvariant :
    cfg8H.WellFormed ∧ Memory.wf .target (tgt [0x12, 0xFF, 0x00]).cells = true :=
  ⟨wellFormed_of_failed (by decide), by decide⟩

theorem witness_AcceptedPushStoresAtTail :
    MemoryOk (withBytes 2 [1, 2, 3, 4, 5, 6] (at' cfg8S .idle [])) ∧
    IndicesOk (withBytes 2 [1, 2, 3, 4, 5, 6] (at' cfg8S .idle [])) ∧
    occ (withBytes 2 [1, 2, 3, 4, 5, 6] (at' cfg8S .idle [])) < cfg8S.capacity - 1 := by decide

theorem witness_FullFifoDropsTheByte :
    occ (withBytes 2 [1, 2, 3, 4, 5, 6, 7] (at' cfg8S .idle [])) = cfg8S.capacity - 1 := by decide

theorem witness_ReceivePathCannotTouchTheBus :
    (at' cfg8S .wrPulse []).activeFlag = true ∧ ({ at' cfg8S .wrPulse [] with ovfSticky := true } : State).ovfSticky = true := by
  decide

theorem witness_PopTakesTheOldestByte :
    IndicesOk (withBytes 7 [0x49] (at' cfg8S .frMark [])) ∧ 0 < occ (withBytes 7 [0x49] (at' cfg8S .frMark [])) ∧
    (withBytes 7 [0x49] (at' cfg8S .frMark [])).udfWait = false := by
  decide

/-- In the wait of an underflow. -/
def underflowing (q : Seq) : State := { at' cfgF q [] with udfWait := true }

theorem witness_EmptyFailFastPopGivesSentinel :
    (occ (at' cfgF .wrHi []) = 0 ∧ (at' cfgF .wrHi []).cfg.popPolicy = .failFast ∧ (at' cfgF .wrHi []).seq = .wrHi ∧
      (at' cfgF .wrHi []).udfWait = false) ∧
    (occ (at' cfgF .wrLo []) = 0 ∧ (at' cfgF .wrLo []).cfg.popPolicy = .failFast ∧ (at' cfgF .wrLo []).seq = .wrLo) ∧
    (underflowing .wrHi).seq = .wrHi ∧ (underflowing .wrLo).seq = .wrLo ∧ (underflowing .wrLo).udfWait = true := by
  decide

/-- A byte that arrives in the wait of an underflow stays in the FIFO; the pop returns the sentinel (40_fifo_flow.md
R166: "the value already returned is the sentinel"). -/
theorem test_byteInUnderflowWaitStays :
    ∃ t, exec .write (rx 0x41 (underflowing .wrHi)) = .next t ∧ t.regs.cHi = cfgF.sentinel ∧ occ t = 1 ∧
      t.seq = .wrLo ∧ t.udfWait = false := ⟨_, rfl, by decide⟩

theorem witness_HeldSequencerChangesNothing :
    mainHeld (State.resetWith cfg8S 0 Target.erased) = true ∧
    nextAgent (State.resetWith cfg8S 0 Target.erased) = .main ∧
    mainHeld (at' cfg8S .wrHi []) = true ∧ nextAgent (at' cfg8S .wrHi []) = .main ∧ (at' cfg8S .wrHi []).seq ≠ .idle := by
  decide

theorem witness_ClearReleasesTheFlowSignal : (at' cfg8H .done []).cfg.WellFormed :=
  wellFormed_of_failed (by decide)

theorem witness_FifoDeliversBytesInOrder :
    ∃ t, MemoryOk (at' cfg8S .rdTop []) ∧ IndicesOk (at' cfg8S .rdTop []) ∧ occ (at' cfg8S .rdTop []) = 0 ∧
      fifoRun [some 0x41, some 0x42, none] (at' cfg8S .rdTop []) = some ([0x41], t) :=
  ⟨_, by decide, by decide, by decide, rfl⟩

theorem witness_FlowDetectorFollowsPolicy :
    (at' cfg8S .idle []).cfg.fcPolicy = .single 4 ∧ (at' cfg8H .idle []).cfg.fcPolicy = .hysteresis 5 2 ∧
    occ (withBytes 0 [1, 2, 3, 4, 5, 6] (at' cfg8H .idle [])) > 5 ∧
    (¬ occ (withBytes 0 [1] (at' cfg8H .idle [])) > 5 ∧ occ (withBytes 0 [1] (at' cfg8H .idle [])) < 2) ∧
    (¬ occ (withBytes 0 [1, 2] (at' cfg8H .idle [])) > 5 ∧ ¬ occ (withBytes 0 [1, 2] (at' cfg8H .idle [])) < 2) := by
  decide

/-- A frame waits, the flag not yet raised. -/
def waiting : State := { withBytes 6 [0x24, 0x33] (at' cfg8S .idle []) with activeFlag := false, busy := false }

theorem witness_FramerRaisesActiveFlag :
    (1 < occ waiting ∧ slot waiting waiting.fifo.head = 0x24 ∧ waiting.activeFlag = false) ∧
    (1 < occ (withBytes 6 [0x24, 0x33] (at' cfg8S .idle [])) ∧ (withBytes 6 [0x24, 0x33] (at' cfg8S .idle [])).activeFlag = true ∧
      slot (withBytes 6 [0x24, 0x33] (at' cfg8S .idle [])) 6 = 0x24) ∧
    ¬ (1 < occ (withBytes 6 [0x24] (at' cfg8S .idle [])) ∧ slot (withBytes 6 [0x24] (at' cfg8S .idle [])) 6 = 0x24) := by
  decide

/-- 95_test_vectors.md FC4: CFG-8S, five bytes stored, skid two. -/
theorem witness_SkidWithinBoundLosesNothing :
    IndicesOk (withBytes 0 [1, 2, 3, 4, 5] (at' cfg8S .rdTop [])) ∧ 4 + 2 ≤ cfg8S.capacity ∧
    occ (withBytes 0 [1, 2, 3, 4, 5] (at' cfg8S .rdTop [])) = 4 + 1 ∧
    ([6, 7] : List Byte).length ≤ cfg8S.capacity - 2 - 4 := by decide

theorem witness_IdleStepRaisesBusy :
    waiting.seq = .idle ∧ nextAgent { waiting with activeFlag := true } = .main ∧
    ({ waiting with activeFlag := true } : State).activeFlag = true := by decide

theorem witness_WaitingFrameIsDrainedAndRun :
    Quiet { waiting with activeFlag := true } ∧ IndicesOk { waiting with activeFlag := true } ∧
    FrameOk { waiting with activeFlag := true } ∧ waiting.seq = .idle := by decide

/-- At DISPATCH with a code byte in `cmd`. -/
def dispatching (c : Config) (code : Byte) : State :=
  { at' c .dispatch [] with regs := { cmd := code, cursor := 0, cHi := 0, cLo := 0, wdata := 0, rdata := 0, abortOp := .read } }

theorem witness_DispatchSelectsTheOperation :
    (dispatching cfg8S 0x31).seq = .dispatch ∧ (dispatching cfg8S 0x31).regs.cmd = 0x31 ∧
    (dispatching cfg8S 0x32).regs.cmd = 0x32 ∧ (dispatching cfg8S 0x33).regs.cmd = 0x33 ∧
    (dispatching cfg8S 0x34).regs.cmd = 0x34 ∧
    ((dispatching cfgB 0x35).regs.cmd = 0x35 ∧ (dispatching cfgB 0x35).cfg.variant = .multiFamily) ∧
    ((dispatching cfg8S 0x35).regs.cmd = 0x35 ∧ (dispatching cfg8S 0x35).cfg.variant = .singleFamily) ∧
    (dispatching cfg8S 0x55).regs.cmd = 0x55 ∧
    ((dispatching cfg8S 0x36).regs.cmd = 0x36 ∧ (0x36 : Byte) ∉ ([0x31, 0x32, 0x33, 0x34, 0x35, 0x55] : List Byte)) := by
  decide

theorem witness_DoneReturnsEveryCommandToIdle : (at' cfg8S .done []).seq = .done ∧ (at' cfg8S .done []).cfg.WellFormed :=
  ⟨rfl, wellFormed_of_failed (by decide)⟩

theorem witness_ReservedCodeIsANoOp :
    (Quiet (dispatching cfg8S 0x36) ∧ (dispatching cfg8S 0x36).cfg.WellFormed ∧ (dispatching cfg8S 0x36).seq = .dispatch ∧
      (dispatching cfg8S 0x36).regs.cmd ∉ ([0x31, 0x32, 0x33, 0x34, 0x35, 0x55] : List Byte)) ∧
    (Quiet (dispatching cfg8S 0x35) ∧ (dispatching cfg8S 0x35).regs.cmd = 0x35 ∧
      (dispatching cfg8S 0x35).cfg.variant = .singleFamily) :=
  ⟨⟨by decide, wellFormed_of_failed (by decide), rfl, by decide⟩, by decide⟩

theorem witness_LoopTopChecksActiveFlag :
    (at' cfg8S .rdTop []).seq = .rdTop ∧ (at' cfg8S .bcTop []).seq = .bcTop ∧ (at' cfg8S .wrTop []).seq = .wrTop := by
  decide

theorem witness_ReadCycleDrivesAddressThenPattern :
    (at' cfg8S .rdAddr []).seq = .rdAddr ∧ (at' cfg8S .bcAddr []).seq = .bcAddr ∧
    (at' cfg8S .rdEn []).seq = .rdEn ∧ (at' cfg8S .bcEn []).seq = .bcEn ∧
    (at' cfg8S .rdEn []).cfg.profiles[(at' cfg8S .rdEn []).activeProf]? = some p4 := by decide

/-- Sampling the last address of P4, with the bus driven or not. -/
def sampling (q : Seq) (pat : Ctl) (t : List Byte) : State :=
  { at' cfg8S q t with
    bus := { addr := 3, dir := .input, dout := 0, ctl := pat }
    regs := { cmd := 0, cursor := 3, cHi := 0, cLo := 0, wdata := 0, rdata := 0, abortOp := .read } }

theorem witness_ReadSamplePrintsTheByte :
    (sampling .rdSample p4.ctlRead [1, 2, 3, 4]).cfg.profiles[0]? = some p4 ∧
    (sampling .rdSample p4.ctlRead [1, 2, 3, 4]).seq = .rdSample ∧ (3 : Addr).toNat < p4.size ∧
    true = ((sampling .rdSample p4.ctlRead [1, 2, 3, 4]).target.fitted &&
      decide ((sampling .rdSample p4.ctlRead [1, 2, 3, 4]).bus.dir = .input ∧
        (sampling .rdSample p4.ctlRead [1, 2, 3, 4]).bus.ctl = p4.ctlRead)) ∧
    (4 : Byte) = memGet .target (sampling .rdSample p4.ctlRead [1, 2, 3, 4]).target.cells 3 ∧
    false = ((sampling .rdSample p4.ctlIdle []).target.fitted &&
      decide ((sampling .rdSample p4.ctlIdle []).bus.dir = .input ∧
        (sampling .rdSample p4.ctlIdle []).bus.ctl = p4.ctlRead)) := by decide

theorem witness_BlankSampleComparesWithErased :
    (sampling .bcSample p4.ctlBlank [0xFF, 0xFF, 0xFF, 0xFE]).seq = .bcSample ∧
    memGet .target (sampling .bcSample p4.ctlBlank [0xFF, 0xFF, 0xFF, 0xFE]).target.cells 3 ≠ 0xFF ∧
    memGet .target (sampling .bcSample p4.ctlBlank []).target.cells 3 = 0xFF ∧
    (sampling .bcSample p4.ctlBlank []).regs.cursor.toNat + 1 = p4.size ∧
    (at' cfg8S .bcSample []).regs.cursor.toNat + 1 ≠ p4.size ∧ (at' cfg8S .bcSample []).bus.addr.toNat < p4.size := by
  decide

theorem witness_NormalExitRestoresTheBus :
    (at' cfg8S .rdEnd []).cfg.profiles[(at' cfg8S .rdEnd []).activeProf]? = some p4 ∧
    (at' cfg8S .rdEnd []).seq = .rdEnd ∧ (at' cfg8S .bcEnd []).seq = .bcEnd ∧ (at' cfg8S .wrEnd []).seq = .wrEnd := by
  decide

theorem witness_WritePopsTwoCharacters :
    0 < occ (withBytes 7 [0x41] (at' cfg8S .wrHi [])) ∧ 0 < occ (withBytes 7 [0x41] (at' cfg8S .wrLo [])) ∧
    occ (at' cfg8S .wrHi []) = 0 ∧ (at' cfg8S .wrHi []).cfg.popPolicy = .block ∧
    (at' cfg8S .wrHi []).udfWait = false ∧ (withBytes 7 [0x41] (at' cfg8S .wrLo [])).udfWait = false := by decide

theorem witness_HexCharactersHaveTheirValue :
    (0x30 : Byte).toNat ≤ 0x39 ∧ (0x39 : Byte).toNat ≤ 0x39 ∧ 0x41 ≤ (0x46 : Byte).toNat ∧ 0x61 ≤ (0x66 : Byte).toNat ∧
    (¬ (0x30 ≤ (0x3A : Byte).toNat ∧ (0x3A : Byte).toNat ≤ 0x39) ∧
      ¬ (0x41 ≤ (0x3A : Byte).toNat ∧ (0x3A : Byte).toNat ≤ 0x46) ∧
      ¬ (0x61 ≤ (0x3A : Byte).toNat ∧ (0x3A : Byte).toNat ≤ 0x66)) := by decide

theorem witness_DriveStepPutsTheByteOnTheBus :
    (at' cfg8S .wrDrive []).cfg.profiles[(at' cfg8S .wrDrive []).activeProf]? = some p4 ∧
    (at' cfg8S .wrDrive []).seq = .wrDrive := by decide

/-- In the middle of a programming pulse at address 0. -/
def midPulse (c : Config) (p : Profile) : State :=
  { at' c .wrPulse [] with
    pulsing := true
    bus := { addr := 0, dir := .output, dout := 0x12, ctl := p.ctlProg.setLine p.pulseLine p.pulseLevel }
    regs := { cmd := 0x32, cursor := 0, cHi := 0x31, cLo := 0x32, wdata := 0x12, rdata := 0, abortOp := .read } }

theorem witness_PulseStepProgramsTheCell :
    (midPulse cfg8S p4).cfg.profiles[(midPulse cfg8S p4).activeProf]? = some p4 ∧ (midPulse cfg8S p4).seq = .wrPulse ∧
    (midPulse cfg8S p4).pulsing = true ∧ (midPulse cfg8S p4).bus.addr.toNat < p4.size ∧
    (at' cfg8S .wrPulse []).pulsing = false := by decide

theorem witness_PulseOverErasedCellStoresTheByte :
    Inv (midPulse cfg8S p4) ∧ activeProfile (midPulse cfg8S p4) = some p4 ∧ (midPulse cfg8S p4).seq = .wrPulse ∧
    (midPulse cfg8S p4).pulsing = true ∧ (midPulse cfg8S p4).target.fitted = true ∧
    cell (midPulse cfg8S p4) (midPulse cfg8S p4).bus.addr = 0xFF :=
  ⟨inv_intro (p := p4) (by decide) rfl (by decide) (by decide)
      (show (midPulse cfg8S p4).regs.cursor.toNat < p4.size ∧ _ ∧ _ ∧ _ ∧ _ from ⟨by decide, rfl, rfl, rfl, rfl⟩)
      (fun _ => rfl), rfl, rfl, rfl, rfl, by decide⟩

theorem witness_AbortRestoresTheBusAndReports :
    Instr.blankCheck ∈ [Instr.read, Instr.blankCheck, Instr.write] ∧
    (at' cfg8S .abort []).cfg.profiles[(at' cfg8S .abort []).activeProf]? = some p4 ∧
    (at' cfg8S .abort []).seq = .abort ∧ (at' cfg8S .abort []).regs.abortOp = .read ∧
    (setAbortOp .write (at' cfg8S .abort [])).seq = .abort ∧ (setAbortOp .write (at' cfg8S .abort [])).regs.abortOp = .write ∧
    (setAbortOp .blankCheck (at' cfg8S .abort [])).regs.abortOp = .blankCheck := by decide

theorem witness_IdentifyEmitsTheIdentity :
    (at' cfgB .ident []).cfg.profiles[(at' cfgB .ident []).activeProf]? = some p4 ∧ (at' cfgB .ident []).seq = .ident := by
  decide

theorem witness_InitBaudAcknowledges : (at' cfg8S .baud []).seq = .baud := by decide

/-- A key byte waits for SetDeviceType. -/
def keyed (k : Byte) : State := withBytes 7 [k] (at' cfgB .stKey [])

theorem witness_KeyByteSelectsTheProfile :
    (keyed 0x31).seq = .stKey ∧ (keyed 0x31).cfg.variant = .multiFamily ∧ (keyed 0x31).cfg.WellFormed ∧
    ((keyed 0x31).udfWait = false ∧ 0 < occ (keyed 0x31) ∧ (0x31 : Byte) = slot (keyed 0x31) 7) ∧ (keyed 0x31).cfg.profiles[1]? = some q2 ∧
    q2.key = 0x31 ∧ (∀ p ∈ (keyed 0x32).cfg.profiles, p.key ≠ 0x32) ∧
    (occ (at' cfgB .stKey []) = 0 ∧ (at' cfgB .stKey []).cfg.popPolicy = .block) ∧
    (occ (at' { cfgB with popPolicy := .failFast } .stKey []) = 0 ∧
      (at' { cfgB with popPolicy := .failFast } .stKey []).cfg.popPolicy = .failFast) ∧
    ({ keyed 0x31 with udfWait := true } : State).udfWait = true :=
  ⟨rfl, rfl, wellFormed_of_failed (by decide), by decide, by decide, by decide, by decide, by decide, by decide, rfl⟩

theorem witness_IdentityFollowsTheProfileSwitch :
    (keyed 0x31).seq = .stKey ∧ (keyed 0x31).cfg.variant = .multiFamily ∧ (keyed 0x31).cfg.WellFormed ∧
    ((keyed 0x31).udfWait = false ∧ 0 < occ (keyed 0x31) ∧
      (0x31 : Byte) = slot (keyed 0x31) (keyed 0x31).fifo.head) ∧
    (({ at' { cfgB with sentinel := 0x31 } .stKey [] with udfWait := true } : State).udfWait = true ∧
      (0x31 : Byte) = (at' { cfgB with sentinel := 0x31 } .stKey []).cfg.sentinel) ∧
    (keyed 0x31).cfg.profiles[1]? = some q2 ∧ q2.key = 0x31 ∧
    (at' cfgB .ident []).cfg = (keyed 0x31).cfg ∧ ({ at' cfgB .ident [] with activeProf := 1 } : State).seq = .ident :=
  ⟨rfl, rfl, wellFormed_of_failed (by decide), by decide, by decide, by decide, by decide, by decide, rfl⟩

/-- A state whose host has one action left and the next turn. -/
def hosting (c : Config) (l : List HostAction) (fell : Bool) : State :=
  { at' c .rdTop [] with env := { script := l, turns := [.host, .main], busyFell := fell } }

theorem witness_HostActionsAreAtomicSteps :
    nextAgent (hosting cfg8S [.send 0x24] false) = .host ∧ (hosting cfg8S [.send 0x24] false).env.script = [.send 0x24] ∧
    (hosting cfg8S [.cancel] false).env.script = [.cancel] ∧ (hosting cfg8S [.cancel] false).cfg.hasCancel = true ∧
    (hosting cfg8S [.await] true).env.script = [.await] ∧ (hosting cfg8S [.await] true).env.busyFell = true ∧
    (hosting cfg8S [] false).env.script = [] ∧
    (hosting { cfg8S with hasCancel := false } [.cancel] false).cfg.hasCancel = false ∧
    (hosting cfg8S [.await] false).env.busyFell = false := by decide

/-- At the top of a loop, cancelled. -/
def cancelled (q : Seq) : State := { at' cfg8S q [] with activeFlag := false }

theorem witness_CancelledOperationStopsAtLoopTop :
    Quiet (cancelled .wrTop) ∧ activeProfile (cancelled .wrTop) = some p4 ∧ (cancelled .wrTop).cfg.WellFormed ∧
    ((cancelled .wrTop).seq, Op.write) ∈ [(Seq.rdTop, Op.read), (Seq.bcTop, Op.blankCheck), (Seq.wrTop, Op.write)] ∧
    (cancelled .wrTop).activeFlag = false :=
  ⟨by decide, by decide, wellFormed_of_failed (by decide), by decide, rfl⟩

theorem witness_OnlyIdleAndLoopTopsReadActiveFlag :
    (at' cfg8S .wrHi []).seq ∉ [Seq.rdTop, .bcTop, .wrTop, .done] ∧ (at' cfg8S .done []).seq = .done ∧
    (at' cfg8S .frMark []).seq ≠ .idle := by decide

theorem witness_ReadAndBlankCheckFrame :
    (∃ t, exec .read (sampling .rdSample p4.ctlRead [1, 2, 3, 4]) = .next t) ∧
    (∃ t, exec .blankCheck (at' cfg8S .bcTop []) = .next t) ∧ (at' cfg8S .bcTop []).seq ≠ .done :=
  ⟨⟨_, rfl⟩, ⟨_, rfl⟩, by decide⟩

theorem witness_WriteFrame :
    (∃ t, exec .write (midPulse cfg8S p4) = .next t) ∧
    ¬ ((midPulse cfg8S p4).seq = .wrPulse ∧ (midPulse cfg8S p4).pulsing = true ∧ (1 : Addr) = (midPulse cfg8S p4).bus.addr) ∧
    (∃ t, exec .write (at' cfg8S .wrTop []) = .next t) ∧ (at' cfg8S .wrTop []).seq ∉ [Seq.wrHi, .wrLo, .done] :=
  ⟨⟨_, rfl⟩, by decide, ⟨_, rfl⟩, by decide⟩

theorem witness_ImmediateCommandFrame :
    Instr.setDeviceType ∉ [Instr.read, Instr.blankCheck, Instr.write] ∧
    (∃ t, exec .setDeviceType (keyed 0x31) = .next t) ∧ (∃ t, exec (.reserved 0x36) (at' cfg8S .dispatch []) = .next t) ∧
    (at' cfg8S .dispatch []).seq ≠ .stKey ∧ (at' cfg8S .dispatch []).seq ≠ .done :=
  ⟨by decide, ⟨_, rfl⟩, ⟨_, rfl⟩, by decide, by decide⟩

theorem witness_StepRunsTheDecodedCommand :
    nextAgent (dispatching cfg8S 0x33) = .main ∧ (dispatching cfg8S 0x33).seq = .dispatch ∧
    decode [0x24, (dispatching cfg8S 0x33).regs.cmd] = .ok (.blankCheck, []) ∧
    nextAgent (at' cfg8S .bcEn []) = .main ∧ running (at' cfg8S .bcEn []) = some .blankCheck ∧
    (Instr.reserved 0x36).wellFormed = true :=
  ⟨rfl, rfl, rfl, rfl, rfl, rfl⟩

/-- A state that meets the invariants, in the middle of a pulse, and its next state. -/
theorem inv_midPulse : Inv (midPulse cfg8S p4) :=
  witness_PulseOverErasedCellStoresTheByte.1

theorem witness_EveryStepKeepsMemoryCanonical :
    MemoryOk (midPulse cfg8S p4) ∧ ∃ t, step (midPulse cfg8S p4) = .next t := ⟨inv_midPulse.1, _, rfl⟩

theorem witness_EveryStepKeepsFifoIndicesInRange :
    IndicesOk (hosting cfg8S [.send 0x24] false) ∧ ∃ t, step (hosting cfg8S [.send 0x24] false) = .next t :=
  ⟨by decide, _, rfl⟩

theorem witness_EveryStepKeepsFrameWaiting :
    MemoryOk { waiting with activeFlag := true } ∧ IndicesOk { waiting with activeFlag := true } ∧
    FrameOk { waiting with activeFlag := true } ∧ ∃ t, step { waiting with activeFlag := true } = .next t :=
  ⟨by decide, by decide, by decide, _, rfl⟩

theorem witness_EveryStepKeepsBusyEqualActive :
    BusyOk (at' cfg8S .done []) ∧ ∃ t, step (at' cfg8S .done []) = .next t := ⟨by decide, _, rfl⟩

theorem witness_EveryStepKeepsFlowSignalCurrent :
    FlowOk (withBytes 7 [0x31] (at' cfg8H .wrHi [])) ∧ ∃ t, step (withBytes 7 [0x31] (at' cfg8H .wrHi [])) = .next t :=
  ⟨by decide, _, rfl⟩

theorem witness_EveryStepKeepsTheBusSafe :
    (ProfilesOk (midPulse cfg8S p4) ∧ BusOk (midPulse cfg8S p4) ∧ ∃ t, step (midPulse cfg8S p4) = .next t) ∧
    activeProfile (midPulse cfg8S p4) = some p4 ∧ restsInactive p4 ∧
    (midPulse cfg8S p4).bus.ctl.line p4.pulseLine = p4.pulseLevel :=
  ⟨⟨inv_midPulse.2.2.1, inv_midPulse.2.2.2.2.2.2.1, _, rfl⟩, by decide, by decide, by decide⟩

/-- The profile Q2 of 95_test_vectors.md rests with CE, its pulse line, at H, its pulse level (log 26). -/
theorem test_q2_rests_at_pulse_level : ¬ restsInactive q2 ∧ q2.ctlIdle.line q2.pulseLine = q2.pulseLevel := by decide

theorem witness_NoStepReadsAnUnwrittenRegister :
    (WrittenOk (midPulse cfg8S p4) ∧ ∃ t, step (midPulse cfg8S p4) = .next t) ∧
    WrittenOk { at' cfg8S .wrTop [] with unwritten := [.cHi] } ∧
    Reg.cHi ∈ ({ at' cfg8S .wrTop [] with unwritten := [.cHi] } : State).unwritten ∧
    forget .cHi { at' cfg8S .wrTop [] with unwritten := [.cHi] } =
      forget .cHi { at' cfg8S .wrTop [] with unwritten := [.cHi], regs := ⟨0, 0, 0x41, 0, 0, 0, .read⟩ } ∧
    (at' cfg8S .wrTop []).regs.cHi ≠ 0x41 :=
  ⟨⟨inv_midPulse.2.2.2.2.2.2.2, _, rfl⟩, by decide, by decide, rfl, by decide⟩

theorem witness_OnlySetDeviceTypeChangesTheProfile :
    ∃ t, step (keyed 0x31) = .next t ∧ t.activeProf ≠ (keyed 0x31).activeProf := ⟨_, rfl, by decide⟩

theorem witness_HistoryOutputAndStickyBitsOnlyGrow :
    ∃ t, step { midPulse cfg8S p4 with ovfSticky := true, udfSticky := true } = .next t := ⟨_, rfl⟩

theorem witness_OnlyAPulseChangesTheTarget :
    ∃ t, step (midPulse cfg8S p4) = .next t ∧ cell t 0 ≠ cell (midPulse cfg8S p4) 0 := ⟨_, rfl, by decide⟩

theorem witness_InvariantStatesNeverStop : Inv (midPulse cfg8S p4) := inv_midPulse

theorem witness_ReadDumpsTheWholeTarget :
    Quiet (dispatching cfg8S 0x31) ∧ (dispatching cfg8S 0x31).cfg.WellFormed ∧
    activeProfile (dispatching cfg8S 0x31) = some p4 ∧ (dispatching cfg8S 0x31).seq = .dispatch ∧
    (dispatching cfg8S 0x31).regs.cmd = 0x31 ∧ (dispatching cfg8S 0x31).activeFlag = true ∧
    (dispatching cfg8S 0x31).target.fitted = true :=
  ⟨by decide, wellFormed_of_failed (by decide), by decide, rfl, rfl, rfl, rfl⟩

/-- The same with the last address of P4 not erased. -/
def notBlank : State := { dispatching cfg8S 0x33 with target := tgt [0xFF, 0xFF, 0xFF, 0x00] }

theorem witness_BlankCheckReportsFirstFailure :
    (Quiet notBlank ∧ notBlank.cfg.WellFormed ∧ activeProfile notBlank = some p4 ∧ notBlank.seq = .dispatch ∧
      notBlank.regs.cmd = 0x33 ∧ notBlank.activeFlag = true ∧ notBlank.target.fitted = true ∧ 3 < p4.size ∧
      memGet .target notBlank.target.cells 3 ≠ 0xFF ∧ (∀ a, a < 3 → memGet .target notBlank.target.cells a = 0xFF)) ∧
    (∀ a, a < p4.size → memGet .target (dispatching cfg8S 0x33).target.cells a = 0xFF) :=
  ⟨⟨by decide, wellFormed_of_failed (by decide), by decide, rfl, rfl, rfl, rfl, by decide, by decide, by decide⟩, by decide⟩

/-- A Write of one address, with its payload and one byte more in the FIFO. -/
def writing : State := withBytes 7 [0x41, 0x62, 0x24] (dispatching cfg1 0x32)

theorem witness_WriteProgramsThePayload :
    Quiet writing ∧ Inv writing ∧ activeProfile writing = some p1 ∧ writing.seq = .dispatch ∧ writing.regs.cmd = 0x32 ∧
    writing.activeFlag = true ∧ writing.target.fitted = true ∧ contents writing = [0x41, 0x62] ++ [0x24] ∧
    ([0x41, 0x62] : List Byte).length = 2 * p1.size ∧ (∀ c ∈ ([0x41, 0x62] : List Byte), (hexval c).isSome = true) ∧
    (∀ a, a < p1.size → memGet .target writing.target.cells a = 0xFF) :=
  ⟨by decide,
    inv_intro (p := p1) (by decide) rfl (by decide) (by decide)
      (show writing.bus.ctl = p1.ctlIdle ∧ writing.bus.dir = .input from ⟨rfl, rfl⟩) (fun h => by cases h),
    by decide, rfl, rfl, rfl, rfl, by decide, by decide, by decide, by decide⟩

/-- After that Write, a Read of the same target about to be dispatched. -/
def reading : State := { dispatching cfg1 0x31 with target := tgt [0xAB] }

theorem witness_WriteThenReadRoundTrip :
    (Quiet writing ∧ Inv writing ∧ activeProfile writing = some p1 ∧ writing.seq = .dispatch ∧ writing.regs.cmd = 0x32 ∧
      writing.activeFlag = true ∧ writing.target.fitted = true ∧ contents writing = [0x41, 0x62] ++ [0x24]) ∧
    (∀ a hi lo, ([0x41, 0x62] : List Byte)[2 * a]? = some hi → ([0x41, 0x62] : List Byte)[2 * a + 1]? = some lo →
      (0xAB : Byte) = joinNibbles (nibbleOf hi 0) (nibbleOf lo 0)) ∧
    (Quiet reading ∧ reading.cfg = writing.cfg ∧ reading.activeProf = writing.activeProf ∧ reading.seq = .dispatch ∧
      reading.regs.cmd = 0x31 ∧ reading.activeFlag = true) := by
  refine ⟨⟨by decide, witness_WriteProgramsThePayload.2.1, by decide, rfl, rfl, rfl, rfl, by decide⟩, ?_, by decide⟩
  intro a hi lo h1 h2
  match a with
  | 0 => cases h1; cases h2; decide
  | a + 1 =>
    rw [List.getElem?_eq_none (by show 2 ≤ 2 * (a + 1); omega)] at h1
    cases h1

end Sys2Proof.Tests
end

/-! # What one step can do, said once for the invariants of the state

`MainStep` lists the ways `SEQ_MAIN` moves; `step_cases` ties it to `step`. Each invariant of 10_state.md is then a
case split over that list, with the cases that matter to it by name. -/

namespace Sys2Proof.Machine

open Sys2Proof

variable {s t : State}

/-! ## Pops -/

/-- A pop returns a value now: the wait of an underflow is over, or a byte is stored (40_fifo_flow.md R164, R166). -/
def PopTakes (s : State) : Prop := s.udfWait = true ∨ 0 < occ s

/-- The value such a pop returns. -/
def popValue (s : State) : Byte := if s.udfWait then s.cfg.sentinel else oldest s

/-- The state such a pop leaves. -/
def popState (s : State) : State := if s.udfWait then popResume s else popData s

theorem popState_cases (s : State) :
    (s.udfWait = true ∧ popState s = popResume s) ∨ (s.udfWait = false ∧ popState s = popData s) := by
  unfold popState
  cases s.udfWait <;> simp

/-- All that such a pop can write: `head`, `fc_pause`, the end of the wait, and a record. -/
theorem popState_rest (s : State) : popState s =
    { s with
      fifo := { s.fifo with head := (popState s).fifo.head }
      fcPause := (popState s).fcPause
      udfWait := false
      ev := (popState s).ev } := by
  rcases popState_cases s with ⟨-, e⟩ | ⟨h, e⟩ <;> rw [e]
  · rfl
  · rw [← h]
    rfl

section
variable (s : State)

@[simp] theorem popState_cfg : (popState s).cfg = s.cfg := by rw [popState_rest]
@[simp] theorem popState_activeFlag : (popState s).activeFlag = s.activeFlag := by rw [popState_rest]
@[simp] theorem popState_seq : (popState s).seq = s.seq := by rw [popState_rest]
@[simp] theorem popState_pulsing : (popState s).pulsing = s.pulsing := by rw [popState_rest]
@[simp] theorem popState_regs : (popState s).regs = s.regs := by rw [popState_rest]
@[simp] theorem popState_activeProf : (popState s).activeProf = s.activeProf := by rw [popState_rest]
@[simp] theorem popState_bus : (popState s).bus = s.bus := by rw [popState_rest]
@[simp] theorem popState_busy : (popState s).busy = s.busy := by rw [popState_rest]
@[simp] theorem popState_ovfSticky : (popState s).ovfSticky = s.ovfSticky := by rw [popState_rest]
@[simp] theorem popState_udfSticky : (popState s).udfSticky = s.udfSticky := by rw [popState_rest]
@[simp] theorem popState_udfWait : (popState s).udfWait = false := by rw [popState_rest]
@[simp] theorem popState_out : (popState s).out = s.out := by rw [popState_rest]
@[simp] theorem popState_target : (popState s).target = s.target := by rw [popState_rest]
@[simp] theorem popState_ev : (popState s).ev = s.ev ++ if s.udfWait then [] else [.pop (oldest s)] := by
  rcases popState_cases s with ⟨h, e⟩ | ⟨h, e⟩ <;> simp [h, e]
@[simp] theorem popState_unwritten : (popState s).unwritten = s.unwritten := by rw [popState_rest]
@[simp] theorem popState_draws : (popState s).draws = s.draws := by rw [popState_rest]
@[simp] theorem popState_env : (popState s).env = s.env := by rw [popState_rest]
@[simp] theorem activeProfile_popState : activeProfile (popState s) = activeProfile s := by simp [activeProfile]
@[simp] theorem cell_popState (a : Addr) : cell (popState s) a = cell s a := by simp [cell]

end

/-- The states of the sequencer whose step begins with a pop. -/
def popStates : List Seq := [.frMark, .frCode, .wrHi, .wrLo, .stKey]

/-! ## The moves of `SEQ_MAIN` -/

/-- Every next state that a step of `SEQ_MAIN` from `s` can give, by the state of the sequencer it starts in, with the
guards under which it does (41_dispatcher.md, 43_commands.md). -/
inductive MainStep (s : State) : State → Prop
  | idleHold (hq : s.seq = .idle) (hf : s.activeFlag = false) : MainStep s s
  | idle (hq : s.seq = .idle) (hf : s.activeFlag = true) : MainStep s (goto .frMark { s with busy := true })
  | popHold (hq : s.seq ∈ popStates) (hw : s.udfWait = false) (h0 : occ s = 0)
      (hp : s.cfg.popPolicy = .block) : MainStep s s
  | popFail (hq : s.seq ∈ popStates) (hw : s.udfWait = false) (h0 : occ s = 0)
      (hp : s.cfg.popPolicy = .failFast) : MainStep s (popUnderflow s)
  | frMark (hq : s.seq = .frMark) (ht : PopTakes s) : MainStep s (goto .frCode (popState s))
  | frCode (hq : s.seq = .frCode) (ht : PopTakes s) :
      MainStep s (goto .dispatch (setCmd (popValue s) (popState s)))
  | enterRead (hq : s.seq = .dispatch) : MainStep s (enterLoop .rdTop s)
  | enterBlankCheck (hq : s.seq = .dispatch) : MainStep s (enterLoop .bcTop s)
  | enterWrite (hq : s.seq = .dispatch) : MainStep s (enterLoop .wrTop s)
  | enterIdentify (hq : s.seq = .dispatch) : MainStep s (goto .ident s)
  | enterSetDeviceType (hq : s.seq = .dispatch) (hv : s.cfg.variant = .multiFamily) : MainStep s (goto .stKey s)
  | enterInitBaud (hq : s.seq = .dispatch) : MainStep s (goto .baud s)
  | unknown (c : Byte) (hq : s.seq = .dispatch) : MainStep s (unknownCommand c s)
  | rdTop (hq : s.seq = .rdTop) : MainStep s (loopTop .read .rdAddr s)
  | rdAddr (hq : s.seq = .rdAddr) : MainStep s (driveAddress .rdEn s)
  | rdEn (p : Profile) (hq : s.seq = .rdEn) (hp : activeProfile s = some p) :
      MainStep s (enableRead p.ctlRead .rdSample s)
  | rdSample (p : Profile) (hq : s.seq = .rdSample) (hp : activeProfile s = some p)
      (ha : s.bus.addr.toNat < p.size) :
      MainStep s (cursorNext p .rdTop .rdEnd
        (emit (dumpItem p.size s.regs.cursor (busByte p.ctlRead s)) (sample p.ctlRead s)))
  | rdEnd (p : Profile) (hq : s.seq = .rdEnd) (hp : activeProfile s = some p) :
      MainStep s (goto .done (busSafe p s))
  | bcTop (hq : s.seq = .bcTop) : MainStep s (loopTop .blankCheck .bcAddr s)
  | bcAddr (hq : s.seq = .bcAddr) : MainStep s (driveAddress .bcEn s)
  | bcEn (p : Profile) (hq : s.seq = .bcEn) (hp : activeProfile s = some p) :
      MainStep s (enableRead p.ctlBlank .bcSample s)
  | bcPass (p : Profile) (hq : s.seq = .bcSample) (hp : activeProfile s = some p)
      (ha : s.bus.addr.toNat < p.size) (hd : busByte p.ctlBlank s = 0xFF) :
      MainStep s (cursorNext p .bcTop .bcEnd (sample p.ctlBlank s))
  | bcFail (p : Profile) (hq : s.seq = .bcSample) (hp : activeProfile s = some p)
      (ha : s.bus.addr.toNat < p.size) (hd : busByte p.ctlBlank s ≠ 0xFF) :
      MainStep s (blankFail p (sample p.ctlBlank s))
  | bcEnd (p : Profile) (hq : s.seq = .bcEnd) (hp : activeProfile s = some p) :
      MainStep s (goto .done (emit textOk (busSafe p s)))
  | wrTop (hq : s.seq = .wrTop) : MainStep s (loopTop .write .wrHi s)
  | wrHi (hq : s.seq = .wrHi) (ht : PopTakes s) : MainStep s (goto .wrLo (setCHi (popValue s) (popState s)))
  | wrLo (hq : s.seq = .wrLo) (ht : PopTakes s) : MainStep s (goto .wrDrive (setCLo (popValue s) (popState s)))
  | wrDrive (p : Profile) (hq : s.seq = .wrDrive) (hp : activeProfile s = some p) : MainStep s (driveData p s)
  | pulseOn (p : Profile) (hq : s.seq = .wrPulse) (hp : activeProfile s = some p) (hr : s.pulsing = false) :
      MainStep s (pulseAssert p s)
  | pulseOff (p : Profile) (hq : s.seq = .wrPulse) (hp : activeProfile s = some p) (hr : s.pulsing = true)
      (ha : s.bus.addr.toNat < p.size) : MainStep s (cursorNext p .wrTop .wrEnd (pulseDeassert p s))
  | wrEnd (p : Profile) (hq : s.seq = .wrEnd) (hp : activeProfile s = some p) :
      MainStep s (goto .done (emit textOk (busSafe p s)))
  | ident (p : Profile) (hq : s.seq = .ident) (hp : activeProfile s = some p) :
      MainStep s (goto .done (emit p.ident s))
  | stKey (hq : s.seq = .stKey) (ht : PopTakes s) :
      MainStep s (goto .done (selectProfile (popValue s) (popState s)))
  | baud (hq : s.seq = .baud) : MainStep s (goto .done (emit textInit s))
  | abort (p : Profile) (hq : s.seq = .abort) (hp : activeProfile s = some p) :
      MainStep s (goto .done (emit (textAborted s.regs.abortOp)
        (raiseEvent (.operationAborted s.regs.abortOp s.regs.cursor) (busSafe p s))))
  | done (hq : s.seq = .done) : MainStep s (doneStep s)

/-- A step that begins with a pop holds, begins an underflow's wait, or takes the value. -/
theorem MainStep.of_withPop {k : Byte → State → State} (hq : s.seq ∈ popStates)
    (hk : PopTakes s → MainStep s (k (popValue s) (popState s)))
    (h : withPop s (fun v u => .next (k v u)) = .next t) : MainStep s t := by
  rcases withPop_cases s fun v u => .next (k v u) with
    ⟨hw, h0, e⟩ | ⟨hw, h0, hp, e⟩ | ⟨hw, h0, hp, e⟩ | ⟨hw, e⟩ <;> rw [e] at h <;> cases h
  · simpa [popValue, popState, hw] using hk (.inr h0)
  · exact .popHold hq hw h0 hp
  · exact .popFail hq hw h0 hp
  · simpa [popValue, popState, hw] using hk (.inl hw)

theorem MainStep.of_abortStep (hq : s.seq = .abort) (h : abortStep s = .next t) : MainStep s t := by
  obtain ⟨p, hp, rfl⟩ := abortStep_next h
  exact .abort p hq hp

theorem MainStep.of_execRead (h : execRead s = .next t) : MainStep s t := by
  rcases execRead_next h with ⟨hq, rfl⟩ | ⟨hq, rfl⟩ | ⟨hq, rfl⟩ |
    ⟨p, hp, ⟨hq, rfl⟩ | ⟨hq, ha, rfl⟩ | ⟨hq, rfl⟩⟩ | ⟨hq, h⟩ | ⟨hq, rfl⟩
  · exact .enterRead hq
  · exact .rdTop hq
  · exact .rdAddr hq
  · exact .rdEn p hq hp
  · exact .rdSample p hq hp ha
  · exact .rdEnd p hq hp
  · exact .of_abortStep hq h
  · exact .done hq

theorem MainStep.of_execBlankCheck (h : execBlankCheck s = .next t) : MainStep s t := by
  rcases execBlankCheck_next h with ⟨hq, rfl⟩ | ⟨hq, rfl⟩ | ⟨hq, rfl⟩ |
    ⟨p, hp, ⟨hq, rfl⟩ | ⟨hq, ha, rfl⟩ | ⟨hq, rfl⟩⟩ | ⟨hq, h⟩ | ⟨hq, rfl⟩
  · exact .enterBlankCheck hq
  · exact .bcTop hq
  · exact .bcAddr hq
  · exact .bcEn p hq hp
  · split
    · exact .bcPass p hq hp ha ‹_›
    · exact .bcFail p hq hp ha ‹_›
  · exact .bcEnd p hq hp
  · exact .of_abortStep hq h
  · exact .done hq

theorem MainStep.of_execWrite (h : execWrite s = .next t) : MainStep s t := by
  rcases execWrite_next h with ⟨hq, rfl⟩ | ⟨hq, rfl⟩ | ⟨hq, h⟩ | ⟨hq, h⟩ |
    ⟨p, hp, ⟨hq, rfl⟩ | ⟨hq, hr, rfl⟩ | ⟨hq, hr, ha, rfl⟩ | ⟨hq, rfl⟩⟩ | ⟨hq, h⟩ | ⟨hq, rfl⟩
  · exact .enterWrite hq
  · exact .wrTop hq
  · exact .of_withPop (by simp [hq, popStates]) (.wrHi hq) h
  · exact .of_withPop (by simp [hq, popStates]) (.wrLo hq) h
  · exact .wrDrive p hq hp
  · exact .pulseOn p hq hp hr
  · exact .pulseOff p hq hp hr ha
  · exact .wrEnd p hq hp
  · exact .of_abortStep hq h
  · exact .done hq

theorem MainStep.of_execSetDeviceType (h : execSetDeviceType s = .next t) : MainStep s t := by
  rcases execSetDeviceType_next h with ⟨hq, hv, rfl⟩ | ⟨hq, -, rfl⟩ | ⟨hq, h⟩ | ⟨hq, rfl⟩
  · exact .enterSetDeviceType hq hv
  · exact .unknown _ hq
  · exact .of_withPop (by simp [hq, popStates]) (.stKey hq) h
  · exact .done hq

theorem MainStep.of_exec {i : Instr} (h : exec i s = .next t) : MainStep s t := by
  cases i with
  | read => exact .of_execRead h
  | write => exact .of_execWrite h
  | blankCheck => exact .of_execBlankCheck h
  | identify =>
    rcases execIdentify_next h with ⟨hq, rfl⟩ | ⟨hq, p, hp, rfl⟩ | ⟨hq, rfl⟩
    · exact .enterIdentify hq
    · exact .ident p hq hp
    · exact .done hq
  | setDeviceType => exact .of_execSetDeviceType h
  | initBaud =>
    rcases execInitBaud_next h with ⟨hq, rfl⟩ | ⟨hq, rfl⟩ | ⟨hq, rfl⟩
    · exact .enterInitBaud hq
    · exact .baud hq
    · exact .done hq
  | reserved c =>
    rcases execReserved_next h with ⟨hq, rfl⟩ | ⟨hq, rfl⟩
    · exact .unknown c hq
    · exact .done hq

theorem MainStep.of_dispatcherStep (h : dispatcherStep s = .next t) : MainStep s t := by
  rcases dispatcherStep_next h with ⟨hq, hf, rfl⟩ | ⟨hq, hf, rfl⟩ | ⟨hq, h⟩ | ⟨hq, h⟩
  · exact .idle hq hf
  · exact .idleHold hq hf
  · exact .of_withPop (by simp [hq, popStates]) (.frMark hq) h
  · exact .of_withPop (by simp [hq, popStates]) (.frCode hq) h

/-- A step is the host's or one of the moves of `SEQ_MAIN`, from the state with the turn taken off the schedule. -/
theorem step_cases (h : step s = .next t) :
    (nextAgent s = .host ∧ t = hostStep (takeTurn s)) ∨ (nextAgent s = .main ∧ MainStep (takeTurn s) t) := by
  rcases step_next h with ⟨ha, rfl⟩ | ⟨ha, i, -, h⟩ | ⟨ha, -, h⟩
  · exact .inl ⟨ha, rfl⟩
  · exact .inr ⟨ha, .of_exec h⟩
  · exact .inr ⟨ha, .of_dispatcherStep h⟩

/-! ## What the host's step leaves alone -/

/-- All that the host's step can write: the receive path's fields and the environment. -/
theorem hostStep_rest (s : State) : hostStep s =
    { s with
      fifo := { s.fifo with slots := (hostStep s).fifo.slots, tail := (hostStep s).fifo.tail }
      fcPause := (hostStep s).fcPause
      activeFlag := (hostStep s).activeFlag
      ovfSticky := (hostStep s).ovfSticky
      ev := (hostStep s).ev
      env := (hostStep s).env } := by
  rcases hostStep_cases s with e | ⟨b, rest, -, e⟩ | ⟨rest, -, -, e⟩ | ⟨rest, -, -, e⟩ <;> rw [e]
  · conv_lhs => rw [rx_rest]
    simp
  · rfl

section
variable (s : State)

@[simp] theorem hostStep_cfg : (hostStep s).cfg = s.cfg := by rw [hostStep_rest]
@[simp] theorem hostStep_seq : (hostStep s).seq = s.seq := by rw [hostStep_rest]
@[simp] theorem hostStep_pulsing : (hostStep s).pulsing = s.pulsing := by rw [hostStep_rest]
@[simp] theorem hostStep_regs : (hostStep s).regs = s.regs := by rw [hostStep_rest]
@[simp] theorem hostStep_activeProf : (hostStep s).activeProf = s.activeProf := by rw [hostStep_rest]
@[simp] theorem hostStep_bus : (hostStep s).bus = s.bus := by rw [hostStep_rest]
@[simp] theorem hostStep_busy : (hostStep s).busy = s.busy := by rw [hostStep_rest]
@[simp] theorem hostStep_udfSticky : (hostStep s).udfSticky = s.udfSticky := by rw [hostStep_rest]
@[simp] theorem hostStep_udfWait : (hostStep s).udfWait = s.udfWait := by rw [hostStep_rest]
@[simp] theorem hostStep_out : (hostStep s).out = s.out := by rw [hostStep_rest]
@[simp] theorem hostStep_target : (hostStep s).target = s.target := by rw [hostStep_rest]
@[simp] theorem hostStep_unwritten : (hostStep s).unwritten = s.unwritten := by rw [hostStep_rest]
@[simp] theorem hostStep_draws : (hostStep s).draws = s.draws := by rw [hostStep_rest]

end

end Sys2Proof.Machine

/-! # The invariants of 10_state.md -/

namespace Sys2Proof.Machine

open Sys2Proof

variable {s t : State}

/-! ## O9: the receive path -/

/-- The framer and the flow update never clear `active_flag`. -/
theorem rx_activeFlag_mono (b : Byte) (h : s.activeFlag = true) : (rx b s).activeFlag = true := by
  have hr : (received b s).activeFlag = s.activeFlag := by rw [received_rest]
  rw [rx_eq, framer_activeFlag, hr, h, Bool.true_or]

/-- A rejected push sets `ovf_sticky`, and nothing in the receive step clears it. -/
theorem rx_ovfSticky (b : Byte) (s : State) :
    (rx b s).ovfSticky = (s.ovfSticky || decide (occ s = s.cfg.capacity - 1)) := by
  rw [rx_eq, framer_ovfSticky, received, fcUpdate_ovfSticky]
  split
  · simp [pushReject, *]
  · simp [pushAccept, *]

/-- Settles O9: the frame is `rx_rest`, and both bits are or-ed into. -/
theorem receivePathCannotTouchTheBus : Obligations.ReceivePathCannotTouchTheBus := by
  unfold Obligations.ReceivePathCannotTouchTheBus
  intro b s
  refine ⟨rx_rest b s, rx_activeFlag_mono b, fun h => ?_⟩
  rw [rx_ovfSticky, h, Bool.true_or]

/-! ## O46: the FIFO indices -/

/-- The configuration is a constant of every step of `SEQ_MAIN` (10_state.md R55). -/
theorem MainStep.cfg (h : MainStep s t) : t.cfg = s.cfg := by
  cases h <;> simp

/-- A step of `SEQ_MAIN` leaves the FIFO alone, pops its oldest byte, or clears it. -/
theorem MainStep.fifo (h : MainStep s t) :
    t.fifo = s.fifo ∨ t.fifo = (popData s).fifo ∨ t.fifo = (clear s).fifo := by
  have hpop : (popState s).fifo = s.fifo ∨ (popState s).fifo = (popData s).fifo := by
    rcases popState_cases s with ⟨-, e⟩ | ⟨-, e⟩ <;> simp [e]
  cases h with
  | frMark | frCode | wrHi | wrLo | stKey => rcases hpop with e | e <;> simp [e]
  | done => simp
  | _ => exact .inl (by simp)

/-- Whether the indices are in range depends on the configuration and the FIFO only. -/
theorem indicesOk_congr (hc : t.cfg = s.cfg) (hf : t.fifo = s.fifo) : IndicesOk t ↔ IndicesOk s := by
  simp only [IndicesOk, hc, hf]

theorem popData_indicesOk (h : IndicesOk s) : IndicesOk (popData s) := by
  obtain ⟨hc, -, ht, hs⟩ := h
  exact ⟨hc, Nat.mod_lt _ (by omega), ht, hs⟩

theorem clear_indicesOk (h : IndicesOk s) : IndicesOk (clear s) := by
  obtain ⟨hc, -⟩ := h
  simp only [IndicesOk, clear_cfg, clear_fifo]
  exact ⟨hc, by omega, by omega, by simp⟩

theorem pushAccept_indicesOk (b : Byte) (h : IndicesOk s) : IndicesOk (pushAccept b s) := by
  obtain ⟨hc, hh, -, hs⟩ := h
  have htail : (s.fifo.tail + 1) % s.cfg.capacity < s.cfg.capacity := Nat.mod_lt _ (by omega)
  refine ⟨hc, hh, htail, fun c hm => ?_⟩
  rcases mem_memSet hm with hm | hm
  · exact hs c hm
  · exact hm ▸ htail

theorem rx_indicesOk (b : Byte) (h : IndicesOk s) : IndicesOk (rx b s) := by
  have hf := rx_fifo b s
  split at hf
  · exact (indicesOk_congr (by simp) hf).2 h
  · exact (indicesOk_congr (s := pushAccept b s) (by simp [pushAccept]) hf).2 (pushAccept_indicesOk b h)

theorem hostStep_indicesOk (h : IndicesOk s) : IndicesOk (hostStep s) := by
  rcases hostStep_cases s with e | ⟨b, rest, -, e⟩ | ⟨rest, -, -, e⟩ | ⟨rest, -, -, e⟩ <;> rw [e]
  · exact h
  · exact rx_indicesOk b h
  · exact h
  · exact h

theorem MainStep.indicesOk (hs : MainStep s t) (h : IndicesOk s) : IndicesOk t := by
  rcases hs.fifo with e | e | e
  · exact (indicesOk_congr hs.cfg e).2 h
  · exact (indicesOk_congr (s := popData s) hs.cfg e).2 (popData_indicesOk h)
  · exact (indicesOk_congr (s := clear s) hs.cfg e).2 (clear_indicesOk h)

/-- Every step of every agent keeps the indices in range. -/
theorem step_indicesOk (hs : step s = .next t) (h : IndicesOk s) : IndicesOk t := by
  rcases step_cases hs with ⟨-, rfl⟩ | ⟨-, hm⟩
  · exact hostStep_indicesOk (s := takeTurn s) h
  · exact hm.indicesOk h

/-- Settles O46: only a push, a pop and a clear move an index, each modulo the capacity or to its ends. -/
theorem everyStepKeepsFifoIndicesInRange : Obligations.EveryStepKeepsFifoIndicesInRange := by
  unfold Obligations.EveryStepKeepsFifoIndicesInRange
  intro s t h hs
  have ht := step_indicesOk hs h
  have hpos : 0 < t.cfg.capacity := by have := ht.1; omega
  exact ⟨ht, by have := occ_lt hpos; omega⟩

/-! ## O48: `busy` -/

/-- Between two Active states `busy` has only to stay as it is. -/
theorem busyOk_of_active (h : BusyOk s) (hb : t.busy = s.busy) (hs : s.seq ≠ .idle) (ht : t.seq ≠ .idle) :
    BusyOk t := by
  simpa [BusyOk, isActive, hb, hs, ht] using h

/-- A step of `SEQ_MAIN` raises `busy` on leaving IDLE, drops it on coming back, and else leaves it alone outside
IDLE (41_dispatcher.md R201, R206). -/
theorem MainStep.busyOk (hs : MainStep s t) (h : BusyOk s) : BusyOk t := by
  cases hs with
  | idle | done => simp [BusyOk, isActive]
  | idleHold | popHold | popFail => exact h
  | rdTop hq | bcTop hq | wrTop hq =>
    refine busyOk_of_active h (by simp) (by simp [hq]) ?_
    rw [loopTop_seq]
    split <;> simp
  | rdSample p hq | bcPass p hq | pulseOff p hq =>
    refine busyOk_of_active h (by simp) (by simp [hq]) ?_
    rw [cursorNext_seq]
    split <;> simp
  | _ => exact busyOk_of_active h (by simp) (by simp [‹s.seq = _›]) (by simp [‹s.seq = _›])

/-- Settles O48: by the moves of `SEQ_MAIN`; the host writes neither `busy` nor `seq`. -/
theorem everyStepKeepsBusyEqualActive : Obligations.EveryStepKeepsBusyEqualActive := by
  unfold Obligations.EveryStepKeepsBusyEqualActive
  intro s t h hs
  rcases step_cases hs with ⟨-, rfl⟩ | ⟨-, hm⟩
  · simpa [BusyOk, isActive] using h
  · exact hm.busyOk h

/-! ## O52: the configuration and the active profile -/

/-- Only the key step writes `active_prof` (43_commands.md R311). -/
theorem MainStep.activeProf (h : MainStep s t) : t.activeProf = s.activeProf ∨ s.seq = .stKey := by
  cases h with
  | stKey hq => exact .inr hq
  | _ => exact .inl (by simp)

/-- Settles O52: the host writes neither field, and of the moves of `SEQ_MAIN` only the key step writes
`active_prof`. -/
theorem onlySetDeviceTypeChangesTheProfile : Obligations.OnlySetDeviceTypeChangesTheProfile := by
  unfold Obligations.OnlySetDeviceTypeChangesTheProfile
  intro s t hs
  rcases step_cases hs with ⟨-, rfl⟩ | ⟨ha, hm⟩
  · simp
  · exact ⟨hm.cfg, fun hne => ⟨hm.activeProf.resolve_left hne, ha⟩⟩

/-! ## O53: the history, the output and the sticky bits -/

/-- What is never taken back: `t` has the history and the output of `s` with more behind them, and the sticky bits
of `s` (10_state.md R49, R50, R66, R70). -/
structure Grows (s t : State) : Prop where
  ev : s.ev <+: t.ev
  out : s.out <+: t.out
  ovf : s.ovfSticky = true → t.ovfSticky = true
  udf : s.udfSticky = true → t.udfSticky = true

theorem Grows.refl (s : State) : Grows s s := ⟨by simp, by simp, id, id⟩

/-- The key step prints "OK" or nothing. -/
theorem selectProfile_out (k : Byte) (s : State) : s.out <+: (selectProfile k s).out := by
  rcases selectProfile_cases k s with e | ⟨i, p, -, -, e⟩ <;> simp [e]

/-- Every move of `SEQ_MAIN` grows the two lists at their ends, if at all, and only an underflow writes a sticky
bit. -/
theorem MainStep.grows (h : MainStep s t) : Grows s t := by
  cases h with
  | stKey => exact ⟨by simp, by simpa using selectProfile_out (popValue s) (popState s), by simp, by simp⟩
  | _ => exact ⟨by simp, by simp, by simp, by simp⟩

theorem rx_ev (b : Byte) (s : State) : s.ev <+: (rx b s).ev := by
  have hr : s.ev <+: (received b s).ev := by
    rw [received, fcUpdate_ev]
    split
    · exact ⟨_, rfl⟩
    · exact ⟨_, rfl⟩
  rw [rx_eq]
  rcases framer_cases (received b s) with ⟨e, -⟩ | ⟨e, -⟩ <;> rw [e]
  · exact hr
  · exact hr.trans ⟨_, rfl⟩

theorem rx_grows (b : Byte) (s : State) : Grows s (rx b s) where
  ev := rx_ev b s
  out := by simp
  ovf h := by rw [rx_ovfSticky, h, Bool.true_or]
  udf h := by simpa using h

theorem hostStep_grows (s : State) : Grows s (hostStep s) := by
  rcases hostStep_cases s with e | ⟨b, rest, -, e⟩ | ⟨rest, -, -, e⟩ | ⟨rest, -, -, e⟩ <;> rw [e]
  · exact .refl s
  · obtain ⟨hev, hout, hovf, hudf⟩ := rx_grows b { s with env := { s.env with script := rest, busyFell := false } }
    exact ⟨hev, hout, hovf, hudf⟩
  · exact ⟨⟨_, rfl⟩, by simp, id, id⟩
  · exact ⟨by simp, by simp, id, id⟩

theorem step_grows (h : step s = .next t) : Grows (takeTurn s) t := by
  rcases step_cases h with ⟨-, rfl⟩ | ⟨-, hm⟩
  · exact hostStep_grows _
  · exact hm.grows

/-- Settles O53: every move only appends to the two lists and only sets the two bits. -/
theorem historyOutputAndStickyBitsOnlyGrow : Obligations.HistoryOutputAndStickyBitsOnlyGrow := by
  unfold Obligations.HistoryOutputAndStickyBitsOnlyGrow
  intro s t h
  obtain ⟨⟨l, hl⟩, ⟨m, hm⟩, hovf, hudf⟩ := step_grows h
  exact ⟨⟨l, hl.symm⟩, ⟨m, hm.symm⟩, hovf, hudf⟩

end Sys2Proof.Machine

/-! # O55: where a meaning stops -/

namespace Sys2Proof.Machine

open Sys2Proof

variable {s : State}

/-- The states of the sequencer whose step reads the active profile. -/
def profileStates : List Seq :=
  [.rdEn, .rdSample, .rdEnd, .bcEn, .bcSample, .bcEnd, .wrDrive, .wrPulse, .wrEnd, .ident, .abort]

/-- The next step ends a bus cycle. -/
def EndsCycle (s : State) : Prop :=
  s.seq = .rdSample ∨ s.seq = .bcSample ∨ s.seq = .wrPulse ∧ s.pulsing = true

/-- The next step reads the active profile where there is none (log 13). -/
def LacksProfile (s : State) : Prop := activeProfile s = none ∧ s.seq ∈ profileStates

/-- The next step ends a bus cycle at an address that the active profile does not have (log 12). -/
def MissesTarget (s : State) : Prop :=
  EndsCycle s ∧ ∃ p, activeProfile s = some p ∧ p.size ≤ s.bus.addr.toNat

theorem not_lacksProfile_of_missesTarget (h : MissesTarget s) : ¬ LacksProfile s := by
  obtain ⟨-, p, hp, -⟩ := h
  simp [LacksProfile, hp]

/-- The answer `r` of a meaning that has a step in the states `qs` is the one that `s` calls for. -/
def Answers (qs : List Seq) (s : State) : Result → Prop
  | .next _ => s.seq ∈ qs ∧ ¬ LacksProfile s ∧ ¬ MissesTarget s
  | .fault .outOfSequence => s.seq ∉ qs
  | .fault .noProfile => s.seq ∈ qs ∧ LacksProfile s
  | .fault (.targetAddress a) => s.seq ∈ qs ∧ a = s.bus.addr ∧ MissesTarget s
  | .refused _ => False

section
variable {qs : List Seq}

/-- A step that reads no profile goes on. -/
theorem answers_next {q : Seq} {t : State} (hq : s.seq = q) (hm : q ∈ qs) (hp : q ∉ profileStates) :
    Answers qs s (.next t) := by
  refine ⟨hq ▸ hm, fun h => hp (hq ▸ h.2), fun h => hp ?_⟩
  rcases h.1 with e | e | ⟨e, -⟩ <;> rw [← hq, e] <;> decide

theorem answers_withPop {q : Seq} {k : Byte → State → State} (hq : s.seq = q) (hm : q ∈ qs)
    (hp : q ∉ profileStates) : Answers qs s (withPop s fun v u => .next (k v u)) := by
  obtain ⟨t, e⟩ := withPop_isNext s k
  rw [e]
  exact answers_next hq hm hp

/-- A step that reads the profile stops without one; with one it answers what the rest of it does. -/
theorem answers_withProfile {q : Seq} {k : Profile → Result} (hq : s.seq = q) (hm : q ∈ qs)
    (hp : q ∈ profileStates) (hk : ∀ p, activeProfile s = some p → Answers qs s (k p)) :
    Answers qs s (withProfile s k) := by
  cases h : activeProfile s with
  | none =>
    have e : withProfile s k = .fault .noProfile := by simp [withProfile, h]
    rw [e]
    exact ⟨hq ▸ hm, h, hq ▸ hp⟩
  | some p =>
    rw [withProfile_some h]
    exact hk p h

/-- A step that reads the profile and ends no bus cycle goes on with one. -/
theorem answers_withProfile_next {q : Seq} {k : Profile → State} (hq : s.seq = q) (hm : q ∈ qs)
    (hp : q ∈ profileStates) (hc : ¬ EndsCycle s) : Answers qs s (withProfile s fun p => .next (k p)) :=
  answers_withProfile hq hm hp fun _ e => ⟨hq ▸ hm, by simp [LacksProfile, e], fun h => hc h.1⟩

/-- A bus cycle goes on exactly at an address of the profile. -/
theorem answers_atTarget {p : Profile} {t : State} (hm : s.seq ∈ qs) (hc : EndsCycle s)
    (hp : activeProfile s = some p) : Answers qs s (atTarget p s t) := by
  unfold atTarget
  split
  · refine ⟨hm, by simp [LacksProfile, hp], ?_⟩
    rintro ⟨-, p', hp', ha⟩
    rw [hp] at hp'
    cases hp'
    omega
  · exact ⟨hm, rfl, hc, p, hp, by omega⟩

theorem answers_outOfSequence (h : s.seq ∉ qs) : Answers qs s (.fault .outOfSequence) := h

end

theorem abortStep_answers {qs : List Seq} (hq : s.seq = .abort) (hm : Seq.abort ∈ qs) :
    Answers qs s (abortStep s) :=
  answers_withProfile_next hq hm (by decide) (by simp [EndsCycle, hq])

theorem execRead_answers (s : State) : Answers (statesOf .read) s (execRead s) := by
  unfold execRead
  split <;> rename_i hq
  · exact answers_next hq (by decide) (by decide)
  · exact answers_next hq (by decide) (by decide)
  · exact answers_next hq (by decide) (by decide)
  · exact answers_withProfile_next hq (by decide) (by decide) (by simp [EndsCycle, hq])
  · exact answers_withProfile hq (by decide) (by decide) fun p hp =>
      answers_atTarget (hq ▸ by decide) (.inl hq) hp
  · exact answers_withProfile_next hq (by decide) (by decide) (by simp [EndsCycle, hq])
  · exact abortStep_answers hq (by decide)
  · exact answers_next hq (by decide) (by decide)
  · exact answers_outOfSequence (by simp_all [statesOf])

theorem execBlankCheck_answers (s : State) : Answers (statesOf .blankCheck) s (execBlankCheck s) := by
  unfold execBlankCheck
  split <;> rename_i hq
  · exact answers_next hq (by decide) (by decide)
  · exact answers_next hq (by decide) (by decide)
  · exact answers_next hq (by decide) (by decide)
  · exact answers_withProfile_next hq (by decide) (by decide) (by simp [EndsCycle, hq])
  · exact answers_withProfile hq (by decide) (by decide) fun p hp =>
      answers_atTarget (hq ▸ by decide) (.inr (.inl hq)) hp
  · exact answers_withProfile_next hq (by decide) (by decide) (by simp [EndsCycle, hq])
  · exact abortStep_answers hq (by decide)
  · exact answers_next hq (by decide) (by decide)
  · exact answers_outOfSequence (by simp_all [statesOf])

/-- Of the two halves of the pulse step only the second ends a bus cycle. -/
theorem writePulse_answers {p : Profile} (hq : s.seq = .wrPulse) (hp : activeProfile s = some p) :
    Answers (statesOf .write) s (writePulse p s) := by
  have hm : s.seq ∈ statesOf .write := hq ▸ by decide
  unfold writePulse
  split
  · exact answers_atTarget hm (.inr (.inr ⟨hq, ‹_›⟩)) hp
  · exact ⟨hm, by simp [LacksProfile, hp], by simp_all [MissesTarget, EndsCycle]⟩

theorem execWrite_answers (s : State) : Answers (statesOf .write) s (execWrite s) := by
  unfold execWrite
  split <;> rename_i hq
  · exact answers_next hq (by decide) (by decide)
  · exact answers_next hq (by decide) (by decide)
  · exact answers_withPop hq (by decide) (by decide)
  · exact answers_withPop hq (by decide) (by decide)
  · exact answers_withProfile_next hq (by decide) (by decide) (by simp [EndsCycle, hq])
  · exact answers_withProfile hq (by decide) (by decide) fun p hp => writePulse_answers hq hp
  · exact answers_withProfile_next hq (by decide) (by decide) (by simp [EndsCycle, hq])
  · exact abortStep_answers hq (by decide)
  · exact answers_next hq (by decide) (by decide)
  · exact answers_outOfSequence (by simp_all [statesOf])

theorem execIdentify_answers (s : State) : Answers (statesOf .identify) s (execIdentify s) := by
  unfold execIdentify
  split <;> rename_i hq
  · exact answers_next hq (by decide) (by decide)
  · exact answers_withProfile_next hq (by decide) (by decide) (by simp [EndsCycle, hq])
  · exact answers_next hq (by decide) (by decide)
  · exact answers_outOfSequence (by simp_all [statesOf])

theorem execSetDeviceType_answers (s : State) : Answers (statesOf .setDeviceType) s (execSetDeviceType s) := by
  unfold execSetDeviceType
  split <;> rename_i hq
  · split
    · exact answers_next hq (by decide) (by decide)
    · exact answers_next hq (by decide) (by decide)
  · exact answers_withPop hq (by decide) (by decide)
  · exact answers_next hq (by decide) (by decide)
  · exact answers_outOfSequence (by simp_all [statesOf])

theorem execInitBaud_answers (s : State) : Answers (statesOf .initBaud) s (execInitBaud s) := by
  unfold execInitBaud
  split <;> rename_i hq
  · exact answers_next hq (by decide) (by decide)
  · exact answers_next hq (by decide) (by decide)
  · exact answers_next hq (by decide) (by decide)
  · exact answers_outOfSequence (by simp_all [statesOf])

theorem execReserved_answers (c : Byte) (s : State) : Answers (statesOf (.reserved c)) s (execReserved c s) := by
  unfold execReserved
  split <;> rename_i hq
  · exact answers_next hq (by simp [statesOf]) (by decide)
  · exact answers_next hq (by simp [statesOf]) (by decide)
  · exact answers_outOfSequence (by simp_all [statesOf])

/-- Every meaning answers what its state calls for. -/
theorem exec_answers (i : Instr) (s : State) : Answers (statesOf i) s (exec i s) := by
  cases i with
  | read => exact execRead_answers s
  | write => exact execWrite_answers s
  | blankCheck => exact execBlankCheck_answers s
  | identify => exact execIdentify_answers s
  | setDeviceType => exact execSetDeviceType_answers s
  | initBaud => exact execInitBaud_answers s
  | reserved c => exact execReserved_answers c s

/-- What a state calls for excludes every other answer, so `Answers` decides each of them. -/
theorem answers_iff {qs : List Seq} {r : Result} (h : Answers qs s r) :
    (∀ e, r ≠ .refused e) ∧
    (r = .fault .outOfSequence ↔ s.seq ∉ qs) ∧
    (r = .fault .noProfile ↔ s.seq ∈ qs ∧ LacksProfile s) ∧
    (∀ a, r = .fault (.targetAddress a) ↔ a = s.bus.addr ∧ s.seq ∈ qs ∧ MissesTarget s) := by
  match r, h with
  | .next _, ⟨hm, hl, ht⟩ => simp [hm, hl, ht]
  | .fault .outOfSequence, hm => simp [show s.seq ∉ qs from hm]
  | .fault .noProfile, ⟨hm, hl⟩ =>
    have ht : ¬ MissesTarget s := fun ht => not_lacksProfile_of_missesTarget ht hl
    simp [hm, hl, ht]
  | .fault (.targetAddress _), ⟨hm, ha, ht⟩ =>
    simp [hm, ha, ht, not_lacksProfile_of_missesTarget ht, eq_comm]

/-- Settles O55: a meaning's answer is the one its state calls for, and those exclude each other. -/
theorem meaningsStopOnlyOutsideTheMachine : Obligations.MeaningsStopOnlyOutsideTheMachine := by
  unfold Obligations.MeaningsStopOnlyOutsideTheMachine
  intro i s
  exact answers_iff (exec_answers i s)

end Sys2Proof.Machine

/-! # O51: no step reads a register that holds no value -/

namespace Sys2Proof.Machine

open Sys2Proof

variable {s t : State}

/-! ## The live registers stay written -/

/-- The loop top keeps the cursor and writes `abort_op` on its way to ABORT. -/
theorem loopTop_writtenOk (op : Op) {q : Seq} (h : .cursor ∉ s.unwritten) (hq : liveRegs q = [.cursor]) :
    WrittenOk (loopTop op q s) := by
  rcases loopTop_cases op q s with ⟨-, e⟩ | ⟨-, e⟩ <;> rw [e]
  · simp [WrittenOk, hq, h]
  · simp [WrittenOk, liveRegs, h]

/-- The loop advance keeps the cursor written. -/
theorem cursorNext_writtenOk (p : Profile) {top last : Seq} (h : .cursor ∉ s.unwritten)
    (htop : liveRegs top = [.cursor]) (hlast : ∀ r ∈ liveRegs last, r = .cursor) :
    WrittenOk (cursorNext p top last s) := by
  rcases cursorNext_cases p top last s with ⟨-, e⟩ | ⟨-, e⟩ <;> rw [e]
  · exact fun r hr => by simpa [hlast r hr] using h
  · simp [WrittenOk, htop]

/-- A register that becomes live on a step of `SEQ_MAIN` is written by that step. -/
theorem MainStep.writtenOk (hs : MainStep s t) (h : WrittenOk s) : WrittenOk t := by
  cases hs with
  | rdTop hq | bcTop hq | wrTop hq => exact loopTop_writtenOk _ (h _ (by simp [hq, liveRegs])) rfl
  | rdSample p hq | bcPass p hq | pulseOff p hq =>
    exact cursorNext_writtenOk p (by simpa using h .cursor (by simp [hq, liveRegs])) rfl (by simp [liveRegs])
  | _ => simp_all [WrittenOk, liveRegs]

theorem step_writtenOk (hs : step s = .next t) (h : WrittenOk s) : WrittenOk t := by
  rcases step_cases hs with ⟨-, rfl⟩ | ⟨-, hm⟩
  · simpa [WrittenOk] using h
  · exact hm.writtenOk h

/-! ## What a step reads is live -/

theorem readsRegs_subset_liveRegs (s : State) : readsRegs s ⊆ liveRegs s.seq := by
  unfold readsRegs
  cases s.seq <;> simp [liveRegs]

theorem readsUnwritten_eq_none (h : WrittenOk s) : readsUnwritten s = none := by
  refine List.find?_eq_none.2 fun r hr => ?_
  simpa using h r (readsRegs_subset_liveRegs s hr)

/-! ## A step does not depend on a register that is not live

A meaning reads such a register nowhere before it writes it. Forgetting it before the step therefore makes no
difference to the result beyond the register itself, which is what `Blind` and `BlindStep` say. -/

/-- An update of the state that does not depend on what `r` holds. -/
def Blind (r : Reg) (f : State → State) (s : State) : Prop := forget r (f (forget r s)) = forget r (f s)

/-- A step that does not depend on what `r` holds. -/
def BlindStep (r : Reg) (f : State → Result) (s : State) : Prop :=
  mapNext (forget r) (f (forget r s)) = mapNext (forget r) (f s)

variable {r : Reg}

theorem Blind.next {f : State → State} (h : Blind r f s) : BlindStep r (fun u => .next (f u)) s :=
  congrArg Host.Outcome.next h

/-- An update that is blind everywhere takes states that differ in `r` at most to such states. -/
theorem forget_congr {f : State → State} (hf : ∀ u, Blind r f u) {u v : State} (h : forget r u = forget r v) :
    forget r (f u) = forget r (f v) := by
  rw [← hf u, h, hf v]

theorem Blind.comp {f g : State → State} (hf : ∀ u, Blind r f u) (hg : Blind r g s) :
    Blind r (fun u => f (g u)) s :=
  forget_congr hf hg

/-! Updates that read no register, or only what they have written. -/

theorem blind_goto (r : Reg) (q : Seq) (s : State) : Blind r (goto q) s := by cases r <;> rfl
theorem blind_emit (r : Reg) (l : List Byte) (s : State) : Blind r (emit l) s := by cases r <;> rfl
theorem blind_raiseEvent (r : Reg) (e : Event) (s : State) : Blind r (raiseEvent e) s := by cases r <;> rfl
theorem blind_setCursor (r : Reg) (a : Addr) (s : State) : Blind r (setCursor a) s := by cases r <;> rfl
theorem blind_setAbortOp (r : Reg) (op : Op) (s : State) : Blind r (setAbortOp op) s := by cases r <;> rfl
theorem blind_setCmd (r : Reg) (c : Byte) (s : State) : Blind r (setCmd c) s := by cases r <;> rfl
theorem blind_setCHi (r : Reg) (c : Byte) (s : State) : Blind r (setCHi c) s := by cases r <;> rfl
theorem blind_setCLo (r : Reg) (c : Byte) (s : State) : Blind r (setCLo c) s := by cases r <;> rfl
theorem blind_busSafe (r : Reg) (p : Profile) (s : State) : Blind r (busSafe p) s := by cases r <;> rfl
theorem blind_sample (r : Reg) (c : Ctl) (s : State) : Blind r (sample c) s := by cases r <;> rfl
theorem blind_enterLoop (r : Reg) (q : Seq) (s : State) : Blind r (enterLoop q) s := by cases r <;> rfl
theorem blind_enableRead (r : Reg) (c : Ctl) (q : Seq) (s : State) : Blind r (enableRead c q) s := by
  cases r <;> rfl
theorem blind_unknownCommand (r : Reg) (c : Byte) (s : State) : Blind r (unknownCommand c) s := by cases r <;> rfl
theorem blind_pulseAssert (r : Reg) (p : Profile) (s : State) : Blind r (pulseAssert p) s := by cases r <;> rfl
theorem blind_doneStep (r : Reg) (s : State) : Blind r doneStep s := by cases r <;> rfl

/-- The normal exits of BlankCheck and Write: the safe state, a text, DONE. -/
theorem blind_safeExit (r : Reg) (l : List Byte) (p : Profile) (s : State) :
    Blind r (fun u => goto .done (emit l (busSafe p u))) s :=
  .comp (blind_goto r _) (.comp (blind_emit r l) (blind_busSafe r p s))

theorem blind_loopTop (r : Reg) (op : Op) (q : Seq) (s : State) : Blind r (loopTop op q) s := by
  unfold Blind loopTop
  rw [forget_activeFlag]
  split
  · exact blind_goto r q s
  · exact forget_congr (blind_goto r .abort) (blind_setAbortOp r op s)

theorem blind_selectProfile (r : Reg) (k : Byte) (s : State) : Blind r (selectProfile k) s := by
  unfold Blind selectProfile
  rw [forget_cfg]
  split
  · exact forget_forget r s
  · split
    · exact forget_forget r s
    · cases r <;> rfl

/-! What a step reads of the registers. -/

@[simp] theorem forget_addr (r : Reg) (s : State) : (forget r s).bus.addr = s.bus.addr := by cases r <;> rfl
@[simp] theorem forget_busByte (r : Reg) (c : Ctl) (s : State) : busByte c (forget r s) = busByte c s := by
  cases r <;> rfl

theorem forget_cursor (hr : r ≠ .cursor) (s : State) : (forget r s).regs.cursor = s.regs.cursor := by
  cases r
  case cursor => exact absurd rfl hr
  all_goals rfl

theorem forget_abortOp (hr : r ≠ .abortOp) (s : State) : (forget r s).regs.abortOp = s.regs.abortOp := by
  cases r
  case abortOp => exact absurd rfl hr
  all_goals rfl

theorem forget_cmd (hr : r ≠ .cmd) (s : State) : (forget r s).regs.cmd = s.regs.cmd := by
  cases r
  case cmd => exact absurd rfl hr
  all_goals rfl

theorem blind_driveAddress (hr : r ≠ .cursor) (q : Seq) (s : State) : Blind r (driveAddress q) s := by
  cases r
  case cursor => exact absurd rfl hr
  all_goals rfl

theorem blind_cursorNext (hr : r ≠ .cursor) (p : Profile) (top last : Seq) (s : State) :
    Blind r (cursorNext p top last) s := by
  unfold Blind cursorNext
  simp only [forget_cursor hr]
  split
  · exact blind_goto r last s
  · exact forget_congr (blind_goto r top) (blind_setCursor r _ s)

theorem blind_driveData (hc : r ≠ .cursor) (hh : r ≠ .cHi) (hl : r ≠ .cLo) (p : Profile) (s : State) :
    Blind r (driveData p) s := by
  cases r
  case cursor => exact absurd rfl hc
  case cHi => exact absurd rfl hh
  case cLo => exact absurd rfl hl
  all_goals simp only [Blind, driveData_eq, forget]

theorem blind_pulseDeassert (hr : r ≠ .dout) (p : Profile) (s : State) : Blind r (pulseDeassert p) s := by
  unfold Blind pulseDeassert program
  cases hf : s.target.fitted
  all_goals
    cases r
    case dout => exact absurd rfl hr
    all_goals simp [forget, hf, raiseEvent, setCtl, cell]

/-! The combinators. -/

theorem blindStep_withPop {k : Byte → State → State} (hk : ∀ v u, Blind r (k v) u) (s : State) :
    BlindStep r (fun u => withPop u fun v w => .next (k v w)) s :=
  forget_withPop r s k hk

theorem blindStep_withProfile {k : Profile → State → Result} (hk : ∀ p, BlindStep r (k p) s) :
    BlindStep r (fun u => withProfile u fun p => k p u) s :=
  forget_withProfile r s hk

theorem blindStep_withProfile_next (k : Profile → State → State) (hk : ∀ p, Blind r (k p) s) :
    BlindStep r (fun u => withProfile u fun p => .next (k p u)) s :=
  blindStep_withProfile fun p => (hk p).next

theorem blindStep_atTarget {p : Profile} {f : State → State} (hf : Blind r f s) :
    BlindStep r (fun u => atTarget p u (f u)) s := by
  unfold BlindStep
  simp only [atTarget, forget_addr]
  split
  · exact hf.next
  · rfl

/-! The commands. -/

theorem blindStep_abortStep (hc : r ≠ .cursor) (ho : r ≠ .abortOp) (s : State) : BlindStep r abortStep s := by
  unfold BlindStep abortStep
  simp only [forget_cursor hc, forget_abortOp ho]
  exact blindStep_withProfile_next (fun p u => goto .done (emit _ (raiseEvent _ (busSafe p u)))) fun p =>
    .comp (blind_goto r _) (.comp (blind_emit r _) (.comp (blind_raiseEvent r _) (blind_busSafe r p s)))

theorem blindStep_readSample (hr : r ≠ .cursor) (p : Profile) (s : State) : BlindStep r (readSample p) s := by
  refine blindStep_atTarget ?_
  unfold Blind
  simp only [sample_rdata, forget_busByte, forget_cursor hr]
  exact forget_congr (blind_cursorNext hr p _ _) (forget_congr (blind_emit r _) (blind_sample r _ s))

theorem blindStep_blankSample (hr : r ≠ .cursor) (p : Profile) (s : State) : BlindStep r (blankSample p) s := by
  refine blindStep_atTarget ?_
  unfold Blind
  by_cases hd : busByte p.ctlBlank s = 0xFF
  · simp only [sample_rdata, forget_busByte, hd, if_true]
    exact forget_congr (blind_cursorNext hr p _ _) (blind_sample r _ s)
  · simp only [blankFail, sample_rdata, sample_cursor, forget_busByte, forget_cursor hr, hd, if_false]
    exact forget_congr (blind_goto r _) (forget_congr (blind_busSafe r p) (forget_congr (blind_emit r _)
      (forget_congr (blind_raiseEvent r _) (blind_sample r _ s))))

theorem blindStep_writePulse (hc : r ≠ .cursor) (hd : r ≠ .dout) (p : Profile) (s : State) :
    BlindStep r (writePulse p) s := by
  unfold BlindStep writePulse
  rw [forget_pulsing]
  split
  · exact blindStep_atTarget (.comp (blind_cursorNext hc p _ _) (blind_pulseDeassert hd p s))
  · exact (blind_pulseAssert r p s).next

/-- A live register is not the one that holds no value. -/
theorem ne_of_not_live {x : Reg} {q : Seq} (hr : r ∉ liveRegs s.seq) (hq : s.seq = q) (hx : x ∈ liveRegs q) :
    r ≠ x :=
  fun e => hr (e ▸ hq ▸ hx)

theorem blindStep_execRead (hr : r ∉ liveRegs s.seq) : BlindStep r execRead s := by
  unfold BlindStep execRead
  rw [forget_seq]
  split <;> rename_i hq
  · exact (blind_enterLoop r _ s).next
  · exact (blind_loopTop r _ _ s).next
  · exact (blind_driveAddress (ne_of_not_live hr hq (by decide)) _ s).next
  · exact blindStep_withProfile_next (fun p => enableRead p.ctlRead .rdSample) fun p =>
      blind_enableRead r _ _ s
  · exact blindStep_withProfile fun p => blindStep_readSample (ne_of_not_live hr hq (by decide)) p s
  · exact blindStep_withProfile_next (fun p u => goto .done (busSafe p u)) fun p =>
      .comp (blind_goto r _) (blind_busSafe r p s)
  · exact blindStep_abortStep (ne_of_not_live hr hq (by decide)) (ne_of_not_live hr hq (by decide)) s
  · exact (blind_doneStep r s).next
  · rfl

theorem blindStep_execBlankCheck (hr : r ∉ liveRegs s.seq) : BlindStep r execBlankCheck s := by
  unfold BlindStep execBlankCheck
  rw [forget_seq]
  split <;> rename_i hq
  · exact (blind_enterLoop r _ s).next
  · exact (blind_loopTop r _ _ s).next
  · exact (blind_driveAddress (ne_of_not_live hr hq (by decide)) _ s).next
  · exact blindStep_withProfile_next (fun p => enableRead p.ctlBlank .bcSample) fun p =>
      blind_enableRead r _ _ s
  · exact blindStep_withProfile fun p => blindStep_blankSample (ne_of_not_live hr hq (by decide)) p s
  · exact blindStep_withProfile_next (fun p u => goto .done (emit textOk (busSafe p u))) fun p =>
      blind_safeExit r _ p s
  · exact blindStep_abortStep (ne_of_not_live hr hq (by decide)) (ne_of_not_live hr hq (by decide)) s
  · exact (blind_doneStep r s).next
  · rfl

theorem blindStep_execWrite (hr : r ∉ liveRegs s.seq) : BlindStep r execWrite s := by
  unfold BlindStep execWrite
  rw [forget_seq]
  split <;> rename_i hq
  · exact (blind_enterLoop r _ s).next
  · exact (blind_loopTop r _ _ s).next
  · exact blindStep_withPop (fun v u => .comp (blind_goto r _) (blind_setCHi r v u)) s
  · exact blindStep_withPop (fun v u => .comp (blind_goto r _) (blind_setCLo r v u)) s
  · exact blindStep_withProfile_next driveData fun p => blind_driveData (ne_of_not_live hr hq (by decide))
      (ne_of_not_live hr hq (by decide)) (ne_of_not_live hr hq (by decide)) p s
  · exact blindStep_withProfile fun p => blindStep_writePulse (ne_of_not_live hr hq (by decide))
      (ne_of_not_live hr hq (by decide)) p s
  · exact blindStep_withProfile_next (fun p u => goto .done (emit textOk (busSafe p u))) fun p =>
      blind_safeExit r _ p s
  · exact blindStep_abortStep (ne_of_not_live hr hq (by decide)) (ne_of_not_live hr hq (by decide)) s
  · exact (blind_doneStep r s).next
  · rfl

theorem blindStep_execIdentify (r : Reg) (s : State) : BlindStep r execIdentify s := by
  unfold BlindStep execIdentify
  rw [forget_seq]
  split
  · exact (blind_goto r _ s).next
  · exact blindStep_withProfile_next (fun p u => goto .done (emit p.ident u)) fun p =>
      .comp (blind_goto r _) (blind_emit r _ s)
  · exact (blind_doneStep r s).next
  · rfl

theorem blindStep_execSetDeviceType (r : Reg) (s : State) : BlindStep r execSetDeviceType s := by
  unfold BlindStep execSetDeviceType
  rw [forget_seq, forget_cfg]
  split
  · split
    · exact (blind_goto r _ s).next
    · exact (blind_unknownCommand r _ s).next
  · exact blindStep_withPop (fun v u => .comp (blind_goto r _) (blind_selectProfile r v u)) s
  · exact (blind_doneStep r s).next
  · rfl

theorem blindStep_execInitBaud (r : Reg) (s : State) : BlindStep r execInitBaud s := by
  unfold BlindStep execInitBaud
  rw [forget_seq]
  split
  · exact (blind_goto r _ s).next
  · exact (Blind.comp (blind_goto r _) (blind_emit r _ s)).next
  · exact (blind_doneStep r s).next
  · rfl

theorem blindStep_execReserved (r : Reg) (c : Byte) (s : State) : BlindStep r (execReserved c) s := by
  unfold BlindStep execReserved
  rw [forget_seq]
  split
  · exact (blind_unknownCommand r _ s).next
  · exact (blind_doneStep r s).next
  · rfl

/-- A meaning reads no register that is not live in its state. -/
theorem blindStep_exec (i : Instr) (hr : r ∉ liveRegs s.seq) : BlindStep r (exec i) s := by
  cases i with
  | read => exact blindStep_execRead hr
  | write => exact blindStep_execWrite hr
  | blankCheck => exact blindStep_execBlankCheck hr
  | identify => exact blindStep_execIdentify r s
  | setDeviceType => exact blindStep_execSetDeviceType r s
  | initBaud => exact blindStep_execInitBaud r s
  | reserved c => exact blindStep_execReserved r c s

/-! The dispatcher, the host and the step. -/

theorem blindStep_dispatcherStep (r : Reg) (s : State) : BlindStep r dispatcherStep s := by
  unfold BlindStep dispatcherStep
  rw [forget_seq, forget_activeFlag]
  split
  · split
    · exact congrArg Host.Outcome.next (by cases r <;> rfl)
    · exact congrArg Host.Outcome.next (forget_forget r s)
  · exact blindStep_withPop (fun _ u => blind_goto r _ u) s
  · exact blindStep_withPop (fun v u => .comp (blind_goto r _) (blind_setCmd r v u)) s
  · rfl

theorem blind_received (r : Reg) (b : Byte) (s : State) : Blind r (received b) s := by
  have ho : occ (forget r s) = occ s := occ_congr (by simp) (by simp) (by simp)
  unfold Blind received
  rw [ho, forget_cfg]
  split
  · cases r <;> rfl
  · cases r <;> rfl

theorem blind_framer (r : Reg) (s : State) : Blind r framer s := by
  have ho : occ (forget r s) = occ s := occ_congr (by simp) (by simp) (by simp)
  have hb : oldest (forget r s) = oldest s := by simp [oldest, slot]
  unfold Blind framer
  rw [ho, hb, forget_activeFlag]
  split
  · split
    · exact forget_forget r s
    · cases r <;> rfl
  · exact forget_forget r s

theorem blind_rx (r : Reg) (b : Byte) (s : State) : Blind r (rx b) s :=
  forget_congr (blind_framer r) (blind_received r b s)

theorem hostEnabled_forget (r : Reg) (s : State) : hostEnabled (forget r s) = hostEnabled s := by
  cases r <;> rfl

theorem nextAgent_forget (r : Reg) (s : State) : nextAgent (forget r s) = nextAgent s := by
  cases r <;> rfl

/-- The host's step reads no register. -/
theorem blind_hostStep (r : Reg) (s : State) : Blind r hostStep s := by
  unfold Blind hostStep
  rw [hostEnabled_forget, forget_env]
  split
  · split
    · exact forget_forget r s
    · exact forget_congr (blind_rx r _) (by cases r <;> rfl)
    · cases r <;> rfl
    · cases r <;> rfl
  · exact forget_forget r s

theorem takeTurn_forget (r : Reg) (s : State) : takeTurn (forget r s) = forget r (takeTurn s) := by
  cases r <;> rfl

/-- At DONE the meaning is the same whatever `cmd` names (41_dispatcher.md R206). -/
theorem exec_done (i : Instr) (hq : s.seq = .done) : exec i s = .next (doneStep s) := by
  cases i <;>
    simp [exec, execRead, execWrite, execBlankCheck, execIdentify, execSetDeviceType, execInitBaud, execReserved, hq]

/-- Outside DONE, which command runs is told by live registers. -/
theorem running_forget (hr : r ∉ liveRegs s.seq) (hd : s.seq ≠ .done) : running (forget r s) = running s := by
  unfold running
  rw [forget_seq]
  cases hq : s.seq
  case dispatch => rw [forget_cmd (ne_of_not_live hr hq (by decide))]
  case done => exact absurd hq hd
  case abort => rw [forget_abortOp (ne_of_not_live hr hq (by decide))]
  all_goals rfl

/-- A step depends on no register that is not live. -/
theorem blindStep_step (hr : r ∉ liveRegs s.seq) : BlindStep r step s := by
  unfold BlindStep step
  rw [nextAgent_forget, takeTurn_forget]
  split
  · exact (blind_hostStep r _).next
  · by_cases hd : s.seq = .done
    · have hrun : ∀ u : State, u.seq = .done → running u = some (decodeCode u.regs.cmd) := fun u hu => by
        simp [running, hu]
      rw [hrun s hd, hrun (forget r s) (by simp [hd])]
      simp only [exec_done (s := takeTurn s) _ hd, exec_done (s := forget r (takeTurn s)) _ (by simp [hd])]
      exact (blind_doneStep r _).next
    · rw [running_forget hr hd]
      split
      · exact blindStep_exec (s := takeTurn s) _ hr
      · exact blindStep_dispatcherStep r _

/-- Two states that differ in a register without a value at most take steps that differ in it at most. -/
theorem step_of_forget_eq {u : State} (h : WrittenOk s) (hr : r ∈ s.unwritten) (e : forget r s = forget r u) :
    mapNext (forget r) (step s) = mapNext (forget r) (step u) := by
  have hs : r ∉ liveRegs s.seq := fun hl => h r hl hr
  have hu : r ∉ liveRegs u.seq := by
    have hseq : s.seq = u.seq := by simpa using congrArg State.seq e
    exact hseq ▸ hs
  calc mapNext (forget r) (step s)
      = mapNext (forget r) (step (forget r s)) := (blindStep_step hs).symm
    _ = mapNext (forget r) (step (forget r u)) := by rw [e]
    _ = mapNext (forget r) (step u) := blindStep_step hu

/-- Settles O51: the live registers stay written, what `SEQ_MAIN` reads next is live, and a step is blind to every
other register. -/
theorem noStepReadsAnUnwrittenRegister : Obligations.NoStepReadsAnUnwrittenRegister := by
  unfold Obligations.NoStepReadsAnUnwrittenRegister
  exact ⟨fun _ _ h hs => step_writtenOk hs h, fun _ h => readsUnwritten_eq_none h,
    fun _ _ _ h hr e => step_of_forget_eq h hr e⟩

end Sys2Proof.Machine

/-! # The two memories of 20_memory.md -/

namespace Sys2Proof.Machine

open Sys2Proof

variable {s t : State}

/-! ## Programming a cell -/

/-- A cell depends on the target only. -/
theorem cell_congr (h : t.target = s.target) (a : Addr) : cell t a = cell s a := by
  simp only [cell, h]

/-- Programming keeps the target's canonical form. -/
theorem program_wf (h : Memory.wf .target s.target.cells = true) :
    Memory.wf .target (program s).target.cells = true := by
  unfold program
  split
  · exact memory_wf_memSet h _ _
  · exact h

/-- Programming a fitted chip stores what `PROGRAM_FN` makes of the old byte and the data (20_memory.md R86 b). -/
theorem cell_program_same (h : Memory.wf .target s.target.cells = true) (hf : s.target.fitted = true) :
    cell (program s) s.bus.addr = Config.programFn (cell s s.bus.addr) s.bus.dout := by
  rw [program, if_pos hf]
  exact memGet_memSet_same h _ _

/-- Programming leaves every cell but the one at `ADDR` alone (20_memory.md R87). -/
theorem cell_program_other {a : Addr} (ha : a ≠ s.bus.addr) : cell (program s) a = cell s a := by
  unfold program
  split
  · exact memGet_memSet_other (fun e => ha (BitVec.eq_of_toNat_eq e)) _
  · rfl

/-- The end of the pulse programs the cell; what else it writes is no part of the target. -/
theorem pulseDeassert_target_eq_program (p : Profile) (s : State) :
    (pulseDeassert p s).target = (program s).target := by
  rw [pulseDeassert_target, program]
  split <;> rfl

/-- An erased cell takes the data as it is (20_memory.md R86 b). -/
theorem programFn_erased (d : Byte) : Config.programFn 0xFF d = d := if_pos rfl

/-! ## What a step does to the target -/

/-- A step of `SEQ_MAIN` leaves the target alone or ends a programming pulse (20_memory.md R82, R87). -/
theorem MainStep.target (h : MainStep s t) :
    t.target = s.target ∨ (s.seq = .wrPulse ∧ s.pulsing = true ∧ t.target = (program s).target) := by
  cases h with
  | pulseOff p hq hp hr =>
    exact .inr ⟨hq, hr, (cursorNext_target _ p _ _).trans (pulseDeassert_target_eq_program p s)⟩
  | _ => exact .inl (by simp)

/-- Settles O54: the host writes no cell, and of the moves of `SEQ_MAIN` only the end of a pulse does, at `ADDR`. -/
theorem onlyAPulseChangesTheTarget : Obligations.OnlyAPulseChangesTheTarget := by
  unfold Obligations.OnlyAPulseChangesTheTarget
  intro s t a h hne
  rcases step_cases h with ⟨-, rfl⟩ | ⟨hag, hm⟩
  · exact absurd (cell_congr (hostStep_target (takeTurn s)) a) hne
  · rcases hm.target with e | ⟨hq, hr, e⟩
    · exact absurd (cell_congr e a) hne
    · refine ⟨hag, hq, hr, by_contra fun ha => hne ?_⟩
      exact (cell_congr e a).trans (cell_program_other (s := takeTurn s) ha)

/-! ## The canonical form -/

theorem rx_memoryOk (b : Byte) (h : MemoryOk s) : MemoryOk (rx b s) := by
  obtain ⟨hslots, hcells⟩ := h
  refine ⟨?_, by rwa [rx_target]⟩
  rw [rx_fifo]
  split
  · exact hslots
  · exact memory_wf_memSet hslots _ b

theorem hostStep_memoryOk (h : MemoryOk s) : MemoryOk (hostStep s) := by
  rcases hostStep_cases s with e | ⟨b, rest, -, e⟩ | ⟨rest, -, -, e⟩ | ⟨rest, -, -, e⟩ <;> rw [e]
  · exact h
  · exact rx_memoryOk b h
  · exact h
  · exact h

/-- A step of `SEQ_MAIN` writes no slot but in a clear, and no cell but in a pulse. -/
theorem MainStep.memoryOk (hs : MainStep s t) (h : MemoryOk s) : MemoryOk t := by
  obtain ⟨hslots, hcells⟩ := h
  constructor
  · rcases hs.fifo with e | e | e <;> rw [e]
    · exact hslots
    · exact hslots
    · rfl
  · rcases hs.target with e | ⟨-, -, e⟩ <;> rw [e]
    · exact hcells
    · exact program_wf hcells

/-- Settles O45: slots are written by a push, which keeps the form, and by a clear, which leaves none; cells are
written by a pulse, which keeps the form. -/
theorem everyStepKeepsMemoryCanonical : Obligations.EveryStepKeepsMemoryCanonical := by
  unfold Obligations.EveryStepKeepsMemoryCanonical
  intro s t h hs
  rcases step_cases hs with ⟨-, rfl⟩ | ⟨-, hm⟩
  · exact hostStep_memoryOk (s := takeTurn s) h
  · exact hm.memoryOk h

/-! ## The end of a pulse -/

/-- The second half of the pulse step of Write (42_bus_sequencer.md R245). -/
theorem exec_write_pulseOff {p : Profile} (hp : activeProfile s = some p) (hq : s.seq = .wrPulse)
    (hr : s.pulsing = true) (ha : s.bus.addr.toNat < p.size) :
    exec .write s = .next (cursorNext p .wrTop .wrEnd (pulseDeassert p s)) := by
  simp only [exec, execWrite, hq, withProfile_some hp, writePulse, hr, if_true, atTarget_lt ha]

/-- During a pulse the bus is at an address of the profile, with the pulse line of the programming pattern moved to its
active level (42_bus_sequencer.md R245, R246). -/
theorem BusOk.bus_of_pulsing {p : Profile} (h : BusOk s) (hp : activeProfile s = some p) (hq : s.seq = .wrPulse)
    (hr : s.pulsing = true) :
    s.bus.addr.toNat < p.size ∧ s.bus.ctl = p.ctlProg.setLine p.pulseLine p.pulseLevel := by
  have hb := h.1 p hp
  rw [busAt, hq] at hb
  obtain ⟨hsize, -, haddr, -, hctl⟩ := hb
  exact ⟨haddr ▸ hsize, by simpa [hr] using hctl⟩

/-- Settles O32: the pulse was at an address of the profile, `PROGRAM_FN` over an erased cell is the data, and the line
goes back to the level it has in `ctl_prog`. -/
theorem pulseOverErasedCellStoresTheByte : Obligations.PulseOverErasedCellStoresTheByte := by
  unfold Obligations.PulseOverErasedCellStoresTheByte
  intro s p hinv hp hq hr hf herased
  obtain ⟨⟨-, hcells⟩, -, ⟨hwf, -⟩, -, -, -, hbus, -⟩ := hinv
  obtain ⟨haddr, hctl⟩ := hbus.bus_of_pulsing hp hq hr
  obtain ⟨-, -, hline⟩ := wellFormed_profile hwf hp
  have hcell : ∀ a, cell (cursorNext p .wrTop .wrEnd (pulseDeassert p s)) a = cell (program s) a := fun a => by
    rw [cell_cursorNext, cell_congr (pulseDeassert_target_eq_program p s)]
  refine ⟨_, exec_write_pulseOff hp hq hr haddr, ?_, fun a ha => ?_, ?_⟩
  · rw [hcell, cell_program_same hcells hf, herased, programFn_erased]
  · rw [hcell, cell_program_other ha]
  · rw [cursorNext_bus, pulseDeassert_bus, hctl]
    exact setLine_back hline

end Sys2Proof.Machine

/-! # O14: the FIFO law -/

namespace Sys2Proof.Machine

open Sys2Proof

variable {s t : State}

/-! ## The stored bytes -/

@[simp] theorem length_contents (s : State) : (contents s).length = occ s := by
  simp [contents]

theorem contents_of_empty (h : occ s = 0) : contents s = [] := by
  simp [contents, h]

/-- An accepted receive step stores its byte behind the others (40_fifo_flow.md R161). -/
theorem contents_rx (b : Byte) (hm : MemoryOk s) (hi : IndicesOk s) (ho : occ s < s.cfg.capacity - 1) :
    contents (rx b s) = contents s ++ [b] := by
  obtain ⟨-, hh, ht, -⟩ := hi
  have hocc : occ (rx b s) = occ s + 1 := by rw [occ_rx b hh ht, if_neg (by omega)]
  have hold : ∀ k ∈ List.range (occ s), slot (rx b s) ((s.fifo.head + k) % s.cfg.capacity) =
      slot s ((s.fifo.head + k) % s.cfg.capacity) := fun k hk => rx_slot b hh ht (List.mem_range.1 hk)
  simp only [contents, hocc, rx_head, rx_cfg, List.range_succ, List.map_append, List.map_singleton]
  rw [List.map_congr_left hold, rx_slot_new b hm.1 hh ht ho]

/-- A pop takes the oldest byte from the front (40_fifo_flow.md R164). -/
theorem contents_popData (hi : IndicesOk s) (ho : 0 < occ s) :
    contents s = oldest s :: contents (popData s) := by
  obtain ⟨-, hh, ht, -⟩ := hi
  have hocc : occ s = occ (popData s) + 1 := by rw [occ_popData hh ht ho]; omega
  have hidx : ∀ k, (s.fifo.head + 1 + k) % s.cfg.capacity =
      ((s.fifo.head + 1) % s.cfg.capacity + k) % s.cfg.capacity := fun k => by rw [Nat.mod_add_mod]
  simp only [contents, hocc, List.range_succ_eq_map, List.map_cons, List.map_map]
  congr 1
  · rw [Nat.add_zero, Nat.mod_eq_of_lt hh, oldest]
  · refine List.map_congr_left fun k _ => ?_
    simp only [Function.comp, popData_fifo, popData_cfg, ← hidx, slot]
    congr 2
    omega

/-! ## A run of receive steps and pops -/

theorem fifoRun_push_next {b : Byte} {ops : List (Option Byte)} {r : List Byte × State}
    (h : fifoRun (some b :: ops) s = some r) : occ s < s.cfg.capacity - 1 ∧ fifoRun ops (rx b s) = some r := by
  unfold fifoRun at h
  split at h
  · exact ⟨‹_›, h⟩
  · cases h

theorem fifoRun_pop_next {ops : List (Option Byte)} {popped : List Byte}
    (h : fifoRun (none :: ops) s = some (popped, t)) :
    0 < occ s ∧ ∃ vs, popped = oldest s :: vs ∧ fifoRun ops (popData s) = some (vs, t) := by
  unfold fifoRun at h
  split at h
  · split at h
    · cases h
      exact ⟨‹_›, _, rfl, ‹_›⟩
    · cases h
  · cases h

/-- From any FIFO the bytes popped and the bytes left are the bytes that were stored and the bytes pushed, in order. -/
theorem fifoRun_contents {ops : List (Option Byte)} {popped : List Byte} (hm : MemoryOk s) (hi : IndicesOk s)
    (h : fifoRun ops s = some (popped, t)) : popped ++ contents t = contents s ++ ops.filterMap id := by
  induction ops generalizing s popped with
  | nil =>
    cases h
    simp
  | cons o ops ih =>
    cases o with
    | some b =>
      obtain ⟨ho, hrest⟩ := fifoRun_push_next h
      rw [ih (rx_memoryOk b hm) (rx_indicesOk b hi) hrest, contents_rx b hm hi ho]
      simp
    | none =>
      obtain ⟨ho, vs, rfl, hrest⟩ := fifoRun_pop_next h
      rw [List.cons_append, ih (s := popData s) hm (popData_indicesOk hi) hrest, contents_popData hi ho]
      simp

/-- Settles O14: an empty FIFO stores nothing, and the count is the length of the same equation. -/
theorem fifoDeliversBytesInOrder : Obligations.FifoDeliversBytesInOrder := by
  unfold Obligations.FifoDeliversBytesInOrder
  intro ops s t popped hm hi h0 h
  have hbytes : popped ++ contents t = ops.filterMap id := by
    rw [fifoRun_contents hm hi h, contents_of_empty h0, List.nil_append]
  refine ⟨hbytes, ?_⟩
  rw [← hbytes, List.length_append, length_contents]

end Sys2Proof.Machine

/-! # The frames of 30_encoding.md -/

namespace Sys2Proof.Machine

open Sys2Proof

variable {s : State}

/-! ## The code byte -/

/-- Every code byte that R121 does not name is reserved (30_encoding.md R123). -/
theorem decodeCode_of_not_mem {c : Byte} (h : c ∉ commandCodes) : decodeCode c = .reserved c :=
  decodeCode_code (i := .reserved c) (by simpa [Instr.wellFormed] using h)

/-- No byte decodes to a reserved command under one of the six codes. -/
theorem wellFormed_decodeCode (c : Byte) : (decodeCode c).wellFormed = true := by
  by_cases h : c ∈ commandCodes
  · have named : ∀ c ∈ commandCodes, (decodeCode c).wellFormed = true := by decide
    exact named c h
  · simpa [decodeCode_of_not_mem h, Instr.wellFormed] using h

/-- A command keeps the whole code byte it was decoded from. -/
theorem code_decodeCode (c : Byte) : (decodeCode c).code = c := by
  by_cases h : c ∈ commandCodes
  · have named : ∀ c ∈ commandCodes, (decodeCode c).code = c := by decide
    exact named c h
  · rw [decodeCode_of_not_mem h, Instr.code]

/-! ## The frame -/

/-- The byte after the marker alone says which command a frame is (30_encoding.md R120). -/
theorem decode_marker (c : Byte) (rest : List Byte) :
    decode (frameMarker :: c :: rest) = .ok (decodeCode c, rest) := by
  rw [decode, if_pos rfl]

/-- Bytes that do not begin with the marker are no frame (30_encoding.md R124). -/
theorem decode_noMarker {m : Byte} (h : m ≠ frameMarker) (c : Byte) (rest : List Byte) :
    decode (m :: c :: rest) = .error (.noMarker m) := by
  rw [decode, if_neg h]

/-- Only a marker and a code byte decode. -/
theorem decode_eq_ok {bs rest : List Byte} {i : Instr} (h : decode bs = .ok (i, rest)) :
    ∃ c, bs = frameMarker :: c :: rest ∧ i = decodeCode c := by
  match bs with
  | [] | [_] => cases h
  | m :: c :: rest' =>
    by_cases hm : m = frameMarker
    · subst hm
      rw [decode_marker] at h
      cases h
      exact ⟨c, rfl, rfl⟩
    · rw [decode_noMarker hm] at h
      cases h

/-- Settles O1: the frame is the marker and the code byte, and the code byte of a well-formed instruction decodes to
it. -/
theorem decodeInvertsEncode : Obligations.DecodeInvertsEncode := by
  unfold Obligations.DecodeInvertsEncode
  intro i rest h
  calc decode (encode i ++ rest)
      = .ok (decodeCode i.code, rest) := decode_marker i.code rest
    _ = .ok (i, rest) := by rw [decodeCode_code h]

/-- Settles O2: what decodes is a marker and a code byte, and the command keeps that byte. -/
theorem decodedFrameIsTheEncoding : Obligations.DecodedFrameIsTheEncoding := by
  unfold Obligations.DecodedFrameIsTheEncoding
  intro bs i rest h
  obtain ⟨c, rfl, rfl⟩ := decode_eq_ok h
  exact ⟨wellFormed_decodeCode c, by rw [encode, code_decodeCode]; rfl⟩

/-- The table word of a well-formed instruction decodes to it. -/
theorem decodeTableWord_encodeWord {i : Instr} (h : i.wellFormed = true) :
    decodeTableWord 16 (encodeWord i) = some i := by
  have hbytes : tableBytes 16 (encodeWord i) = some (encode i) := by
    cases i with
    | reserved c =>
      obtain ⟨-, -, hword⟩ := Laws.EncodeShape.reserved c
      exact hword
    | _ => rfl
  have hdecode : decode (encode i) = .ok (i, []) := by simpa using decodeInvertsEncode i [] h
  simp only [decodeTableWord, hbytes, hdecode]

/-- Settles O3: the six words are the table words of the six commands; a code byte that is none of theirs is reserved;
and the marker is the first test. -/
theorem frameWordsDecodeAsTabled : Obligations.FrameWordsDecodeAsTabled := by
  unfold Obligations.FrameWordsDecodeAsTabled
  refine ⟨decodeTableWord_encodeWord (i := .read) rfl, decodeTableWord_encodeWord (i := .write) rfl,
    decodeTableWord_encodeWord (i := .blankCheck) rfl, decodeTableWord_encodeWord (i := .identify) rfl,
    decodeTableWord_encodeWord (i := .setDeviceType) rfl, decodeTableWord_encodeWord (i := .initBaud) rfl,
    fun c hc => ?_, fun m c rest hm => decode_noMarker hm c rest⟩
  calc decode [frameMarker, c]
      = .ok (decodeCode c, []) := decode_marker c []
    _ = .ok (.reserved c, []) := by rw [decodeCode_of_not_mem hc]

/-! ## O22: a reserved code runs through DISPATCH and DONE -/

/-- A clear empties the FIFO and releases the flow-control signal (40_fifo_flow.md R168, R169). -/
theorem clear_eq (h : s.cfg.WellFormed) : clear s =
    { s with fifo := { slots := [], head := 0, tail := s.cfg.capacity - 1 }, fcPause := false } := by
  have hc := wellFormed_capacity h
  have hpause : (clear s).fcPause = false := by
    rw [clear_fcPause, occ_clear (by omega), fcNext_zero (wellFormed_fits h)]
  rw [← hpause]
  rfl

/-- Step DONE as one update of the state (41_dispatcher.md R206). -/
theorem doneStep_eq (h : s.cfg.WellFormed) : doneStep s =
    { s with
      fifo := { slots := [], head := 0, tail := s.cfg.capacity - 1 }
      fcPause := false, activeFlag := false, busy := false, seq := .idle
      env := { s.env with busyFell := s.env.busyFell || s.busy } } := by
  rw [doneStep, clear_eq h, goto]

theorem running_dispatch (h : s.seq = .dispatch) : running s = some (decodeCode s.regs.cmd) := by
  rw [running, h]

theorem running_done (h : s.seq = .done) : running s = some (decodeCode s.regs.cmd) := by
  rw [running, h]

/-- At DISPATCH a code that the variant does not know is recorded and goes straight to DONE (41_dispatcher.md R204,
R205). -/
theorem exec_dispatch_unknown (hq : s.seq = .dispatch)
    (h : s.regs.cmd ∉ commandCodes ∨ s.regs.cmd = 0x35 ∧ s.cfg.variant = .singleFamily) :
    exec (decodeCode s.regs.cmd) s = .next (unknownCommand s.regs.cmd s) := by
  rcases h with h | ⟨h, hv⟩
  · rw [decodeCode_of_not_mem h, exec, execReserved, hq]
  · have hcode : decodeCode s.regs.cmd = .setDeviceType := by rw [h]; rfl
    simp only [hcode, exec, execSetDeviceType, hq, hv]
    rw [h]

/-- Settles O22: the first step records the code, the second is DONE. -/
theorem reservedCodeIsANoOp : Obligations.ReservedCodeIsANoOp := by
  unfold Obligations.ReservedCodeIsANoOp
  intro s hquiet hwf hq hcode
  have hdispatch : step s = .next (unknownCommand s.regs.cmd s) := by
    rw [step_quiet hquiet, running_dispatch hq]
    exact exec_dispatch_unknown hq hcode
  have hdone : step (unknownCommand s.regs.cmd s) = .next (doneStep (unknownCommand s.regs.cmd s)) := by
    rw [step_quiet (s := unknownCommand s.regs.cmd s) hquiet, running_done rfl]
    exact exec_done _ rfl
  rw [steps_succ hdispatch, steps_succ hdone, doneStep_eq (s := unknownCommand s.regs.cmd s) hwf]
  rfl

end Sys2Proof.Machine

/-! # The characters of 30_encoding.md -/

namespace Sys2Proof.Machine

open Sys2Proof

/-! ## Characters in -/

theorem hexval_digit {c : Byte} (h : 0x30 ≤ c.toNat) (h' : c.toNat ≤ 0x39) :
    hexval c = some (BitVec.ofNat 4 (c.toNat - 0x30)) := by
  rw [hexval, if_pos ⟨h, h'⟩]

theorem hexval_upper {c : Byte} (h : 0x41 ≤ c.toNat) (h' : c.toNat ≤ 0x46) :
    hexval c = some (BitVec.ofNat 4 (c.toNat - 0x41 + 10)) := by
  rw [hexval, if_neg (by omega), if_pos ⟨h, h'⟩]

theorem hexval_lower {c : Byte} (h : 0x61 ≤ c.toNat) (h' : c.toNat ≤ 0x66) :
    hexval c = some (BitVec.ofNat 4 (c.toNat - 0x61 + 10)) := by
  rw [hexval, if_neg (by omega), if_neg (by omega), if_pos ⟨h, h'⟩]

theorem hexval_eq_none {c : Byte} (hd : ¬ (0x30 ≤ c.toNat ∧ c.toNat ≤ 0x39))
    (hu : ¬ (0x41 ≤ c.toNat ∧ c.toNat ≤ 0x46)) (hl : ¬ (0x61 ≤ c.toNat ∧ c.toNat ≤ 0x66)) : hexval c = none := by
  rw [hexval, if_neg hd, if_neg hu, if_neg hl]

/-- A hexadecimal character has its value, and nothing is drawn. -/
theorem nibbleOf_of_hexval {c : Byte} {k : Nat} (h : hexval c = some (BitVec.ofNat 4 k)) (hk : k < 16) (n : Nat) :
    (nibbleOf c n).toNat = k ∧ drawsAfter c n = n := by
  simp [nibbleOf, drawsAfter, h, Nat.mod_eq_of_lt hk]

/-- Any other byte has the value of the present draw (log 7). -/
theorem nibbleOf_of_hexval_none {c : Byte} (h : hexval c = none) (n : Nat) :
    nibbleOf c n = Config.freeNibble n ∧ drawsAfter c n = n + 1 := by
  simp [nibbleOf, drawsAfter, h]

/-! ## Digits out -/

theorem hex1_toNat_of_le {n : Nibble} (h : n.toNat ≤ 9) : (hex1 n).toNat = 0x30 + n.toNat := by
  rw [hex1, if_pos h, BitVec.toNat_ofNat]
  omega

theorem hex1_toNat_of_lt {n : Nibble} (h : 9 < n.toNat) : (hex1 n).toNat = 0x41 + (n.toNat - 10) := by
  have hn := n.isLt
  rw [hex1, if_neg (by omega), BitVec.toNat_ofNat]
  omega

/-- A digit has the value it prints. -/
theorem hexval_hex1 (n : Nibble) : hexval (hex1 n) = some n := by
  have hn := n.isLt
  by_cases h : n.toNat ≤ 9
  · have hc := hex1_toNat_of_le h
    rw [hexval_digit (by omega) (by omega), hc, Nat.add_sub_cancel_left, BitVec.ofNat_toNat, BitVec.setWidth_eq]
  · have hc := hex1_toNat_of_lt (by omega : 9 < n.toNat)
    rw [hexval_upper (by omega) (by omega), hc, Nat.add_sub_cancel_left, Nat.sub_add_cancel (by omega),
      BitVec.ofNat_toNat, BitVec.setWidth_eq]

/-- Digits are printed in upper case. -/
theorem hex1_toNat_lt (n : Nibble) : (hex1 n).toNat < 0x61 := by
  have hn := n.isLt
  by_cases h : n.toNat ≤ 9
  · rw [hex1_toNat_of_le h]
    omega
  · rw [hex1_toNat_of_lt (by omega)]
    omega

theorem hex2_append (hi lo : Nibble) : hex2 (hi ++ lo : BitVec 8) = [hex1 hi, hex1 lo] := by
  have hhi : (hi ++ lo : BitVec 8).extractLsb' 4 4 = hi := BitVec.extractLsb'_append_eq_left
  have hlo : (hi ++ lo : BitVec 8).extractLsb' 0 4 = lo := BitVec.extractLsb'_append_eq_right
  rw [hex2, hhi, hlo]

theorem hex4_append (hi lo : Byte) : hex4 (hi ++ lo : BitVec 16) = hex2 hi ++ hex2 lo := by
  have hhi : (hi ++ lo : BitVec 16).extractLsb' 8 8 = hi := BitVec.extractLsb'_append_eq_left
  have hlo : (hi ++ lo : BitVec 16).extractLsb' 0 8 = lo := BitVec.extractLsb'_append_eq_right
  rw [hex4, hhi, hlo]

/-- Settles O29: the three ranges of characters and the bytes outside them; the digits fall into the first two. -/
theorem hexCharactersHaveTheirValue : Obligations.HexCharactersHaveTheirValue := by
  unfold Obligations.HexCharactersHaveTheirValue
  refine ⟨fun c n => ⟨?digit, ?upper, ?lower, ?other⟩, fun hi lo => ?digits, hex4_append⟩
  case digit => exact fun h h' => nibbleOf_of_hexval (hexval_digit h h') (by omega) n
  case upper => exact fun h h' => nibbleOf_of_hexval (hexval_upper h h') (by omega) n
  case lower => exact fun h h' => nibbleOf_of_hexval (hexval_lower h h') (by omega) n
  case other => exact fun hd hu hl => nibbleOf_of_hexval_none (hexval_eq_none hd hu hl) n
  case digits => exact ⟨hex2_append hi lo, hexval_hex1 hi, by have := hex1_toNat_lt hi; omega⟩

end Sys2Proof.Machine

/-! # The host's actions of 30_encoding.md R135 -/

namespace Sys2Proof.Machine

open Sys2Proof

variable {s : State} {rest : List HostAction}

theorem step_host (h : nextAgent s = .host) : step s = .next (hostStep (takeTurn s)) := by
  rw [step, h]

theorem hostStep_send {b : Byte} (h : s.env.script = .send b :: rest) :
    hostStep s = rx b { s with env := { s.env with script := rest, busyFell := false } } := by
  simp [hostStep, hostEnabled, h]

theorem hostStep_cancel (h : s.env.script = .cancel :: rest) (hc : s.cfg.hasCancel = true) :
    hostStep s = cancel { s with env := { s.env with script := rest } } := by
  simp [hostStep, hostEnabled, h, hc]

theorem hostStep_await (h : s.env.script = .await :: rest) (hb : s.env.busyFell = true) :
    hostStep s = { s with env := { s.env with script := rest } } := by
  simp [hostStep, hostEnabled, h, hb]

/-- A host that is not enabled changes nothing (log 17, 18). -/
theorem hostStep_of_not_enabled (h : hostEnabled s = false) : hostStep s = s := by
  simp [hostStep, h]

/-- When the host is not enabled: nothing left to do, no cancel input, or `BUSY` has not fallen. -/
theorem hostEnabled_eq_false (h : s.env.script = [] ∨
    (∃ rest, s.env.script = .cancel :: rest ∧ s.cfg.hasCancel = false) ∨
    (∃ rest, s.env.script = .await :: rest ∧ s.env.busyFell = false)) : hostEnabled s = false := by
  rcases h with h | ⟨_, h, hc⟩ | ⟨_, h, hb⟩
  · rw [hostEnabled, h]
  · rw [hostEnabled, h]
    exact hc
  · rw [hostEnabled, h]
    exact hb

/-- Settles O38: the host's step at the state with the turn taken, one equation for each action and one for a host
that is not enabled. -/
theorem hostActionsAreAtomicSteps : Obligations.HostActionsAreAtomicSteps := by
  unfold Obligations.HostActionsAreAtomicSteps
  intro s ha
  rw [step_host ha]
  refine ⟨fun b rest h => ?send, fun rest h hc => ?cancel, fun rest h hb => ?await, fun h => ?held⟩
  case send => rw [hostStep_send (s := takeTurn s) h]; rfl
  case cancel => rw [hostStep_cancel (s := takeTurn s) h hc]; rfl
  case await => rw [hostStep_await (s := takeTurn s) h hb]; rfl
  case held => rw [hostStep_of_not_enabled (s := takeTurn s) (hostEnabled_eq_false h)]; rfl

end Sys2Proof.Machine

/-! # O47: a frame waits while the dispatcher is about to drain one (40_fifo_flow.md R177) -/

namespace Sys2Proof.Machine

open Sys2Proof

variable {s t : State}

/-! ## The receive step -/

/-- The oldest byte is a slot, so it depends on the FIFO only. -/
theorem oldest_congr (h : t.fifo = s.fifo) : oldest t = oldest s := by
  simp only [oldest, slot, h]

@[simp] theorem occ_framer (s : State) : occ (framer s) = occ s :=
  occ_congr (by simp) (by simp) (by simp)

@[simp] theorem oldest_framer (s : State) : oldest (framer s) = oldest s := oldest_congr (by simp)

/-- The receive step raises `active_flag` by what it leaves in the FIFO (40_fifo_flow.md R160, R175). -/
theorem rx_activeFlag (b : Byte) (s : State) :
    (rx b s).activeFlag = (s.activeFlag || frameSeen (occ (rx b s)) (oldest (rx b s))) := by
  have hr : (received b s).activeFlag = s.activeFlag := by rw [received_rest]
  rw [rx_eq, framer_activeFlag, occ_framer, oldest_framer, hr]

/-- A receive step never takes a byte out. -/
theorem occ_le_occ_rx (b : Byte) (hi : IndicesOk s) : occ s ≤ occ (rx b s) := by
  obtain ⟨-, hh, ht, -⟩ := hi
  rw [occ_rx b hh ht]
  split <;> omega

/-- The oldest stored byte stays the oldest through a receive step. -/
theorem oldest_rx (b : Byte) (hi : IndicesOk s) (ho : 0 < occ s) : oldest (rx b s) = oldest s := by
  obtain ⟨-, hh, ht, -⟩ := hi
  have hslot := rx_slot b hh ht ho
  rw [Nat.add_zero, Nat.mod_eq_of_lt hh] at hslot
  rw [oldest, rx_head, hslot, oldest]

/-- A frame at the front of the FIFO stays there through a receive step. -/
theorem rx_keeps_frame (b : Byte) (hi : IndicesOk s) (h : 2 ≤ occ s ∧ oldest s = 0x24) :
    2 ≤ occ (rx b s) ∧ oldest (rx b s) = 0x24 := by
  obtain ⟨ho, hm⟩ := h
  have hle := occ_le_occ_rx b hi
  exact ⟨by omega, by rw [oldest_rx b hi (by omega), hm]⟩

/-- A set `active_flag` was set before, or the framer has just seen the frame it stands for. -/
theorem rx_frameOk (b : Byte) (hi : IndicesOk s) (h : FrameOk s) : FrameOk (rx b s) := by
  obtain ⟨hidle, hmark, hcode, hwait⟩ := h
  simp only [FrameOk, rx_seq, rx_udfWait]
  refine ⟨fun hq hf => ?_, fun hq => rx_keeps_frame b hi (hmark hq),
    fun hq => (hcode hq).trans (occ_le_occ_rx b hi), hwait⟩
  rw [rx_activeFlag, Bool.or_eq_true] at hf
  rcases hf with hf | hf
  · exact rx_keeps_frame b hi (hidle hq hf)
  · exact frameSeen_iff.1 hf

/-- The host receives a byte, clears `active_flag`, or touches nothing that the invariant reads. -/
theorem hostStep_frameOk (hi : IndicesOk s) (h : FrameOk s) : FrameOk (hostStep s) := by
  rcases hostStep_cases s with e | ⟨b, rest, -, e⟩ | ⟨rest, -, -, e⟩ | ⟨rest, -, -, e⟩ <;> rw [e]
  · exact h
  · exact rx_frameOk b hi h
  · obtain ⟨-, hrest⟩ := h
    exact ⟨fun _ hf => absurd hf Bool.false_ne_true, hrest⟩
  · exact h

/-! ## The moves of `SEQ_MAIN` -/

/-- No underflow is being waited out but in the three pops of operands. -/
theorem FrameOk.udfWait_eq_false (h : FrameOk s) (hq : s.seq ∉ [.wrHi, .wrLo, .stKey]) : s.udfWait = false := by
  obtain ⟨-, -, -, hwait⟩ := h
  by_contra hw
  exact hq (by simpa using hwait (by simpa using hw))

/-- Past the drained frame the invariant asks for nothing but that no wait is left. -/
theorem frameOk_of_drained (hw : t.udfWait = false) (hq : t.seq ∉ [.idle, .frMark, .frCode]) : FrameOk t := by
  simp only [List.mem_cons, not_or] at hq
  obtain ⟨hidle, hmark, hcode, -⟩ := hq
  exact ⟨fun h => absurd h hidle, fun h => absurd h hmark, fun h => absurd h hcode, by simp [hw]⟩

/-- IDLE hands its frame on to FR_MARK, whose pop leaves FR_CODE the code byte; no other step goes there, and only
DONE goes to IDLE, with `active_flag` at 0. -/
theorem MainStep.frameOk (hs : MainStep s t) (hi : IndicesOk s) (h : FrameOk s) : FrameOk t := by
  obtain ⟨-, hhead, htail, -⟩ := hi
  have hnowait := h.udfWait_eq_false
  have ⟨hidle, hmark, hcode, _⟩ := h
  cases hs with
  | idleHold | popHold => exact h
  | idle hq hf =>
    have hframe := hidle hq hf
    exact ⟨by simp, fun _ => hframe, by simp, by simp [hnowait, hq]⟩
  | popFail hq hw h0 =>
    have hops : s.seq = .wrHi ∨ s.seq = .wrLo ∨ s.seq = .stKey := by
      have hm : s.seq ≠ .frMark := fun e => by have := hmark e; omega
      have hc : s.seq ≠ .frCode := fun e => by have := hcode e; omega
      simpa [popStates, hm, hc] using hq
    exact ⟨by simpa using hidle, by simpa using hmark, by simpa using hcode, fun _ => hops⟩
  | frMark hq =>
    obtain ⟨ho, -⟩ := hmark hq
    have hpop : popState s = popData s := by simp [popState, hnowait, hq]
    have hleft : 1 ≤ occ (popData s) := by rw [occ_popData hhead htail (by omega)]; omega
    exact ⟨by simp, by simp, by simpa [hpop] using hleft, by simp⟩
  | frCode | wrHi | wrLo | stKey => exact frameOk_of_drained (by simp) (by simp)
  | done hq => exact ⟨by simp, by simp, by simp, by simp [hnowait, hq]⟩
  | rdTop hq | bcTop hq | wrTop hq =>
    refine frameOk_of_drained (by simp [hnowait, hq]) ?_
    rw [loopTop_seq]
    split <;> simp
  | rdSample p hq | bcPass p hq | pulseOff p hq =>
    refine frameOk_of_drained (by simp [hnowait, hq]) ?_
    rw [cursorNext_seq]
    split <;> simp
  | _ => exact frameOk_of_drained (by simp [hnowait, ‹s.seq = _›]) (by simp [‹s.seq = _›])

/-- Settles O47: the receive step keeps a waiting frame and raises the flag only on one, and the dispatcher drains
it byte by byte. -/
theorem everyStepKeepsFrameWaiting : Obligations.EveryStepKeepsFrameWaiting := by
  unfold Obligations.EveryStepKeepsFrameWaiting
  intro s t _ hi h hs
  rcases step_cases hs with ⟨-, rfl⟩ | ⟨-, hm⟩
  · exact hostStep_frameOk (s := takeTurn s) hi h
  · exact hm.frameOk hi h

end Sys2Proof.Machine

/-! # The flow signal and the FIFO's operations (40_fifo_flow.md R160 to R176) -/

namespace Sys2Proof.Machine

open Sys2Proof

variable {s t : State}

/-! ## O49: the flow signal is current -/

/-- Whether the flow signal is current depends on the configuration, the FIFO and the signal only. -/
theorem flowOk_congr (hc : t.cfg = s.cfg) (hf : t.fifo = s.fifo) (hp : t.fcPause = s.fcPause) :
    FlowOk t ↔ FlowOk s := by
  simp only [FlowOk, hc, hp, occ_congr (t := t) (s := s) (by rw [hf]) (by rw [hf]) (by rw [hc])]

/-- A flow update leaves the signal current, whatever it was. -/
theorem fcUpdate_flowOk (s : State) : FlowOk (fcUpdate s) := (fcNext_idem _ _ _).symm

/-- A pop that takes a byte ends with a flow update; the end of an underflow's wait takes none. -/
theorem popState_flowOk (h : FlowOk s) : FlowOk (popState s) := by
  rcases popState_cases s with ⟨-, e⟩ | ⟨-, e⟩ <;> rw [e]
  · exact h
  · exact fcUpdate_flowOk _

theorem received_flowOk (b : Byte) (s : State) : FlowOk (received b s) := fcUpdate_flowOk _

/-- The framer at the end of a receive step reads the FIFO and leaves the signal alone. -/
theorem rx_flowOk (b : Byte) (s : State) : FlowOk (rx b s) := by
  rw [rx_eq]
  exact (flowOk_congr (by simp) (by simp) (by simp)).2 (received_flowOk b s)

theorem hostStep_flowOk (h : FlowOk s) : FlowOk (hostStep s) := by
  rcases hostStep_cases s with e | ⟨b, rest, -, e⟩ | ⟨rest, -, -, e⟩ | ⟨rest, -, -, e⟩ <;> rw [e]
  · exact h
  · exact rx_flowOk b _
  · exact h
  · exact h

/-- Of the moves of `SEQ_MAIN` only a pop and DONE's clear touch the FIFO, and both end with a flow update. -/
theorem MainStep.flowOk (hs : MainStep s t) (h : FlowOk s) : FlowOk t := by
  cases hs with
  | frMark | frCode | wrHi | wrLo | stKey =>
    exact (flowOk_congr (by simp) (by simp) (by simp)).2 (popState_flowOk h)
  | done => exact (flowOk_congr (s := clear s) (by simp) (by simp) (by simp)).2 (fcUpdate_flowOk _)
  | _ => exact (flowOk_congr (by simp) (by simp) (by simp)).2 h

/-- Settles O49: every push, pop and clear ends with a flow update, and a second update changes nothing. -/
theorem everyStepKeepsFlowSignalCurrent : Obligations.EveryStepKeepsFlowSignalCurrent := by
  unfold Obligations.EveryStepKeepsFlowSignalCurrent
  intro s t h hs
  rcases step_cases hs with ⟨-, rfl⟩ | ⟨-, hm⟩
  · exact hostStep_flowOk (s := takeTurn s) h
  · exact hm.flowOk h

/-! ## O7: an accepted push -/

/-- Settles O7: a write to the canonical memory, and the occupancy as `occ_pushAccept` has it. -/
theorem acceptedPushStoresAtTail : Obligations.AcceptedPushStoresAtTail := by
  unfold Obligations.AcceptedPushStoresAtTail
  intro b s hm hi ho
  obtain ⟨-, hh, ht, -⟩ := hi
  refine ⟨rfl, ?stored, fun i hne => ?kept, rfl, occ_pushAccept b hh ht ho, rfl⟩
  case stored => exact memGet_memSet_same hm.1 _ b
  case kept => exact memGet_memSet_other hne b

/-! ## O8, O16: the framer and a rejected push -/

/-- Where the flag is set already, or no frame is at the front, the framer changes nothing. -/
theorem framer_unchanged (h : s.activeFlag = true ∨ frameSeen (occ s) (oldest s) = false) : framer s = s := by
  rcases framer_cases s with ⟨e, -⟩ | ⟨-, hf, hs⟩
  · exact e
  · simp [hf, hs] at h

/-- A frame at the front raises the flag, and the change is recorded. -/
theorem framer_raises (hf : s.activeFlag = false) (hs : frameSeen (occ s) (oldest s) = true) :
    framer s = { s with activeFlag := true, ev := s.ev ++ [.flagRaised] } := by
  rcases framer_cases s with ⟨-, h⟩ | ⟨e, -, -⟩
  · simp [hf, hs] at h
  · exact e

/-- Settles O16: the framer's two outcomes; the order of the receive step is its definition. -/
theorem framerRaisesActiveFlag : Obligations.FramerRaisesActiveFlag := by
  unfold Obligations.FramerRaisesActiveFlag
  refine ⟨fun s => ⟨fun ho hb hf => ?raised, fun _ _ hf => ?already, fun hn => ?unseen⟩, rx_eq⟩
  case raised => exact framer_raises hf (frameSeen_iff.2 ⟨ho, hb⟩)
  case already => exact framer_unchanged (.inl hf)
  case unseen => exact framer_unchanged (.inr (Bool.eq_false_iff.2 (mt frameSeen_iff.1 hn)))

/-- The framer in one equation: the flag is or-ed with the framer's condition, and a change of it recorded. -/
theorem framer_eq (s : State) : framer s =
    { s with
      activeFlag := s.activeFlag || frameSeen (occ s) (oldest s)
      ev := s.ev ++ if s.activeFlag = false ∧ frameSeen (occ s) (oldest s) = true then [.flagRaised] else [] } := by
  rcases framer_cases s with ⟨e, h⟩ | ⟨e, hf, hs⟩
  · have hflag : (s.activeFlag || frameSeen (occ s) (oldest s)) = s.activeFlag := by rcases h with h | h <;> simp [h]
    have hrec : ¬ (s.activeFlag = false ∧ frameSeen (occ s) (oldest s) = true) := by rcases h with h | h <;> simp [h]
    rw [e, hflag, if_neg hrec, List.append_nil]
  · rw [e, hf, hs, if_pos ⟨rfl, rfl⟩, Bool.false_or]

/-- A receive step at a full FIFO, up to the framer: the byte is dropped and recorded (40_fifo_flow.md R162). -/
theorem received_of_full (b : Byte) (h : occ s = s.cfg.capacity - 1) : received b s =
    { s with
      ovfSticky := true
      fcPause := fcNext s.cfg.fcPolicy (occ s) s.fcPause
      ev := s.ev ++ [.overflow b] } := by
  rw [received, if_pos h]
  rfl

/-- Settles O8: a rejected push leaves the FIFO alone, so the flow update and the framer see it as it was. -/
theorem fullFifoDropsTheByte : Obligations.FullFifoDropsTheByte := by
  unfold Obligations.FullFifoDropsTheByte
  intro b s hfull
  have hocc : occ (received b s) = occ s := by rw [received_of_full b hfull]; rfl
  have hold : oldest (received b s) = oldest s := by rw [received_of_full b hfull]; rfl
  rw [rx_eq, framer_eq, hocc, hold, received_of_full b hfull]
  simp only [frameSeen, ← Bool.decide_and, decide_eq_true_eq]

/-! ## O10, O11: pops -/

theorem withPop_data (k : Byte → State → Result) (hw : s.udfWait = false) (h : 0 < occ s) :
    withPop s k = k (oldest s) (popData s) := by
  simp [withPop, hw, h]

theorem withPop_underflow (k : Byte → State → Result) (hw : s.udfWait = false) (h : occ s = 0)
    (hp : s.cfg.popPolicy = .failFast) : withPop s k = .next (popUnderflow s) := by
  simp [withPop, hw, h, hp]

theorem withPop_resume (k : Byte → State → Result) (hw : s.udfWait = true) :
    withPop s k = k s.cfg.sentinel (popResume s) := by
  simp [withPop, hw]

/-- Settles O10: the flow update of a pop sees the occupancy lowered by one. -/
theorem popTakesTheOldestByte : Obligations.PopTakesTheOldestByte := by
  unfold Obligations.PopTakesTheOldestByte
  intro s hi ho hw
  obtain ⟨-, hh, ht, -⟩ := hi
  have hocc := occ_popData hh ht ho
  refine ⟨fun k => withPop_data k hw ho, hocc, ?_⟩
  rw [← hocc]
  rfl

theorem exec_write_wrHi (hq : s.seq = .wrHi) :
    exec .write s = withPop s fun v u => .next (goto .wrLo (setCHi v u)) := by
  simp only [exec, execWrite, hq]

theorem exec_write_wrLo (hq : s.seq = .wrLo) :
    exec .write s = withPop s fun v u => .next (goto .wrDrive (setCLo v u)) := by
  simp only [exec, execWrite, hq]

/-- Settles O11: both steps are the pop's, at its underflow and at the end of its wait; a receive step writes neither
`seq` nor the wait. -/
theorem emptyFailFastPopGivesSentinel : Obligations.EmptyFailFastPopGivesSentinel := by
  unfold Obligations.EmptyFailFastPopGivesSentinel
  intro s
  refine ⟨fun hq hw h0 hp => ⟨?underflow, rfl⟩, fun hw b => ⟨?waiting, rx_seq b⟩, fun hq hw => ?hi,
    fun hq hw => ?lo⟩
  case underflow =>
    rcases hq with hq | hq
    · rw [exec_write_wrHi hq, withPop_underflow _ hw h0 hp]; rfl
    · rw [exec_write_wrLo hq, withPop_underflow _ hw h0 hp]; rfl
  case waiting => rw [rx_udfWait, hw]
  case hi => rw [exec_write_wrHi hq, withPop_resume _ hw]; rfl
  case lo => rw [exec_write_wrLo hq, withPop_resume _ hw]; rfl

/-! ## O13, O15: the flow signal's values -/

/-- Settles O13: the cleared and the reset FIFO have the same indices, and at occupancy 0 either policy releases. -/
theorem clearReleasesTheFlowSignal : Obligations.ClearReleasesTheFlowSignal := by
  unfold Obligations.ClearReleasesTheFlowSignal
  have hempty : ∀ s : State, s.cfg.WellFormed → occ (clear s) = 0 := fun s hwf =>
    occ_clear (by have := wellFormed_capacity hwf; omega)
  refine ⟨fun s hwf => ?_, fun c a tg hwf => ⟨hempty (State.resetWith c a tg) hwf, rfl⟩⟩
  have hpause : (clear s).fcPause = false := by
    rw [clear_fcPause, hempty s hwf, fcNext_zero (wellFormed_fits hwf)]
  refine ⟨hempty s hwf, hpause, fun i => rfl, ?_⟩
  rw [← hpause]
  rfl

/-- Settles O15: a flow update writes what the detector says, and the detector is the policy's case split. -/
theorem flowDetectorFollowsPolicy : Obligations.FlowDetectorFollowsPolicy := by
  unfold Obligations.FlowDetectorFollowsPolicy
  intro s
  refine ⟨fun m hp => ?single, fun hwm lwm hp => ⟨fun hh => ?above, fun hh hl => ?below, fun hh hl => ?between⟩⟩
  case single => rw [fcUpdate, hp, fcNext]
  case above => rw [fcUpdate, hp, fcNext, if_pos hh]
  case below => rw [fcUpdate, hp, fcNext, if_neg hh, if_pos hl]
  case between => rw [fcUpdate, hp, fcNext, if_neg hh, if_neg hl]

end Sys2Proof.Machine

/-! # The dispatcher (41_dispatcher.md) -/

namespace Sys2Proof.Machine

open Sys2Proof

variable {s : State}

/-! ## Which step the turn of `SEQ_MAIN` takes -/

theorem step_of_running {i : Instr} (ha : nextAgent s = .main) (hr : running s = some i) :
    step s = exec i (takeTurn s) := by
  simp only [step, ha, hr]

theorem step_of_running_none (ha : nextAgent s = .main) (hr : running s = none) :
    step s = dispatcherStep (takeTurn s) := by
  simp only [step, ha, hr]

theorem running_eq_none (h : s.seq ∈ [.idle, .frMark, .frCode]) : running s = none := by
  simp only [List.mem_cons, List.not_mem_nil, or_false] at h
  rcases h with h | h | h <;> rw [running, h]

/-- IDLE with the flag raised (41_dispatcher.md R201). -/
theorem dispatcherStep_idle (hq : s.seq = .idle) (hf : s.activeFlag = true) :
    dispatcherStep s = .next (goto .frMark { s with busy := true }) := by
  rw [dispatcherStep, hq]
  exact if_pos hf

theorem dispatcherStep_idle_held (hq : s.seq = .idle) (hf : s.activeFlag = false) :
    dispatcherStep s = .next s := by
  rw [dispatcherStep, hq]
  exact if_neg (by simp [hf])

theorem dispatcherStep_frMark (hq : s.seq = .frMark) :
    dispatcherStep s = withPop s fun _ u => .next (goto .frCode u) := by
  rw [dispatcherStep, hq]

theorem dispatcherStep_frCode (hq : s.seq = .frCode) :
    dispatcherStep s = withPop s fun v u => .next (goto .dispatch (setCmd v u)) := by
  rw [dispatcherStep, hq]

theorem exec_setDeviceType_stKey (hq : s.seq = .stKey) :
    exec .setDeviceType s = withPop s fun v u => .next (goto .done (selectProfile v u)) := by
  simp only [exec, execSetDeviceType, hq]

/-! ## O19: a waiting frame is drained -/

theorem step_quiet_dispatcher (hquiet : Quiet s) (hq : s.seq ∈ [.idle, .frMark, .frCode]) :
    step s = dispatcherStep s := by
  rw [step_quiet hquiet, running_eq_none hq]

theorem step_quiet_frMark (hquiet : Quiet s) (hq : s.seq = .frMark) (hw : s.udfWait = false) (ho : 0 < occ s) :
    step s = .next (goto .frCode (popData s)) := by
  rw [step_quiet_dispatcher hquiet (by simp [hq]), dispatcherStep_frMark hq, withPop_data _ hw ho]

theorem step_quiet_frCode (hquiet : Quiet s) (hq : s.seq = .frCode) (hw : s.udfWait = false) (ho : 0 < occ s) :
    step s = .next (goto .dispatch (setCmd (oldest s) (popData s))) := by
  rw [step_quiet_dispatcher hquiet (by simp [hq]), dispatcherStep_frCode hq, withPop_data _ hw ho]

/-- Two pops from a FIFO that holds two bytes. -/
theorem occ_popData_popData (hi : IndicesOk s) (ho : 2 ≤ occ s) : occ (popData (popData s)) = occ s - 2 := by
  obtain ⟨hc, hh, ht, -⟩ := hi
  have h1 : occ (popData s) = occ s - 1 := occ_popData hh ht (by omega)
  have hh' : (popData s).fifo.head < (popData s).cfg.capacity := Nat.mod_lt _ (by omega)
  rw [occ_popData hh' ht (by omega), h1]
  omega

/-- The state at DISPATCH once the waiting frame of `s` is drained: both bytes popped, the second in `cmd`
(41_dispatcher.md R201 to R203). -/
def drained (s : State) : State :=
  goto .dispatch (setCmd (oldest (popData s)) (popData (popData { s with busy := true })))

/-- IDLE, FR_MARK and FR_CODE, with nothing else moving. -/
theorem steps_drained (hquiet : Quiet s) (hi : IndicesOk s) (hw : s.udfWait = false) (hq : s.seq = .idle)
    (hf : s.activeFlag = true) (ho : 2 ≤ occ s) : steps 3 s = .next (drained s) := by
  obtain ⟨-, hh, ht, -⟩ := hi
  have hcode : 0 < occ (popData s) := by rw [occ_popData hh ht (by omega)]; omega
  have idle : step s = .next (goto .frMark { s with busy := true }) := by
    rw [step_quiet_dispatcher hquiet (by simp [hq]), dispatcherStep_idle hq hf]
  have frMark : step (goto .frMark { s with busy := true }) = .next (goto .frCode (popData { s with busy := true })) :=
    step_quiet_frMark hquiet rfl hw (Nat.zero_lt_of_lt ho)
  have frCode : step (goto .frCode (popData { s with busy := true })) = .next (drained s) :=
    step_quiet_frCode hquiet rfl hw hcode
  rw [steps_succ idle, steps_succ frMark, steps_succ frCode, steps]

/-- Settles O19: the invariant gives the dispatcher a marker and a byte to pop, and DISPATCH decodes `cmd`. -/
theorem waitingFrameIsDrainedAndRun : Obligations.WaitingFrameIsDrainedAndRun := by
  unfold Obligations.WaitingFrameIsDrainedAndRun
  intro s hquiet hi hframe hq hf
  have hw : s.udfWait = false := hframe.udfWait_eq_false (by simp [hq])
  obtain ⟨hidle, -⟩ := hframe
  obtain ⟨ho, hmark⟩ := hidle hq hf
  refine ⟨drained s, steps_drained hquiet hi hw hq hf ho, rfl, rfl, rfl, ?records, occ_popData_popData hi ho, rfl,
    rfl, rfl, rfl, ?runs⟩
  case records =>
    calc (drained s).ev
        = s.ev ++ [.pop (oldest s)] ++ [.pop (oldest (popData s))] := rfl
      _ = s.ev ++ [.pop 0x24, .pop (slot s ((s.fifo.head + 1) % s.cfg.capacity))] := by
        rw [hmark, List.append_assoc]; rfl
  case runs =>
    rw [step_quiet (s := drained s) hquiet, running_dispatch (s := drained s) rfl]

/-! ## O12, O18: IDLE, and a pop that holds -/

theorem withPop_block (k : Byte → State → Result) (hw : s.udfWait = false) (h : occ s = 0)
    (hp : s.cfg.popPolicy = .block) : withPop s k = .next s := by
  simp [withPop, hw, h, hp]

/-- `SEQ_MAIN` is held in IDLE for the flag, and in a `Block` pop for a byte. -/
theorem mainHeld_iff : mainHeld s = true ↔
    (s.seq = .idle ∧ s.activeFlag = false) ∨
    (s.seq ∈ popStates ∧ s.udfWait = false ∧ occ s = 0 ∧ s.cfg.popPolicy = .block) := by
  unfold mainHeld
  cases s.seq <;> simp [popStates, isEmpty, and_assoc]

/-- In each of the five pop states the step of `SEQ_MAIN` is a pop and an update. -/
theorem step_of_popStates (ha : nextAgent s = .main) (hq : s.seq ∈ popStates) :
    ∃ k : Byte → State → State, step s = withPop (takeTurn s) fun v u => .next (k v u) := by
  simp only [popStates, List.mem_cons, List.not_mem_nil, or_false] at hq
  rcases hq with hq | hq | hq | hq | hq
  · exact ⟨_, (step_of_running_none ha (running_eq_none (by simp [hq]))).trans (dispatcherStep_frMark hq)⟩
  · exact ⟨_, (step_of_running_none ha (running_eq_none (by simp [hq]))).trans (dispatcherStep_frCode hq)⟩
  · exact ⟨_, (step_of_running ha (by rw [running, hq])).trans (exec_write_wrHi hq)⟩
  · exact ⟨_, (step_of_running ha (by rw [running, hq])).trans (exec_write_wrLo hq)⟩
  · exact ⟨_, (step_of_running ha (by rw [running, hq])).trans (exec_setDeviceType_stKey hq)⟩

theorem step_of_mainHeld (ha : nextAgent s = .main) (h : mainHeld s = true) : step s = .next (takeTurn s) := by
  rcases mainHeld_iff.1 h with ⟨hq, hf⟩ | ⟨hq, hw, h0, hp⟩
  · rw [step_of_running_none ha (running_eq_none (by simp [hq])), dispatcherStep_idle_held (s := takeTurn s) hq hf]
  · obtain ⟨k, e⟩ := step_of_popStates ha hq
    rw [e, withPop_block (s := takeTurn s) _ hw h0 hp]

/-- Settles O12: a cancel writes `active_flag` and a record, and a pop's hold reads neither. -/
theorem heldSequencerChangesNothing : Obligations.HeldSequencerChangesNothing := by
  unfold Obligations.HeldSequencerChangesNothing
  intro s h
  refine ⟨fun ha => step_of_mainHeld ha h, fun hne => ?_⟩
  rcases mainHeld_iff.1 h with ⟨hq, -⟩ | hpop
  · exact absurd hq hne
  · exact mainHeld_iff.2 (.inr (by simpa using hpop))

/-- Settles O18: the pins read `busy`. -/
theorem idleStepRaisesBusy : Obligations.IdleStepRaisesBusy := by
  unfold Obligations.IdleStepRaisesBusy
  intro s hq ha hf
  refine ⟨_, ?_, rfl, rfl, rfl⟩
  rw [step_of_running_none ha (running_eq_none (by simp [hq])), dispatcherStep_idle (s := takeTurn s) hq hf]
  rfl

/-! ## O20, O21: DISPATCH and DONE -/

/-- Settles O20: `cmd` decodes to the command that runs, whose own DISPATCH step is its equation; the codes that the
variant does not know are `exec_dispatch_unknown`'s. -/
theorem dispatchSelectsTheOperation : Obligations.DispatchSelectsTheOperation := by
  unfold Obligations.DispatchSelectsTheOperation
  intro s hq
  rw [running_dispatch hq]
  refine ⟨fun hc => ⟨?_, ?read⟩, fun hc => ⟨?_, ?write⟩, fun hc => ⟨?_, ?blankCheck⟩, fun hc => ⟨?_, ?identify⟩,
    fun hc => ⟨?_, fun hv => ?selectType, fun hv => ?unknownType⟩, fun hc => ⟨?_, ?initBaud⟩,
    fun c hc hn => ?reserved⟩
  case read => simp only [exec, execRead, hq]; rfl
  case write => simp only [exec, execWrite, hq]; rfl
  case blankCheck => simp only [exec, execBlankCheck, hq]; rfl
  case identify => simp only [exec, execIdentify, hq]; rfl
  case selectType => simp only [exec, execSetDeviceType, hq, hv]; rfl
  case unknownType => simp only [exec, execSetDeviceType, hq, hv]; rfl
  case initBaud => simp only [exec, execInitBaud, hq]; rfl
  case reserved =>
    have hdecode : decodeCode s.regs.cmd = .reserved c := by rw [hc, decodeCode_of_not_mem hn]
    refine ⟨congrArg some hdecode, ?_⟩
    rw [← hdecode, exec_dispatch_unknown hq (.inl (hc ▸ hn)), hc]
    rfl
  all_goals rw [hc]; rfl

/-- Settles O21: DONE is one step, the same for every command. -/
theorem doneReturnsEveryCommandToIdle : Obligations.DoneReturnsEveryCommandToIdle := by
  unfold Obligations.DoneReturnsEveryCommandToIdle
  intro i s hq hwf
  rw [exec_done i hq, doneStep_eq hwf]

/-! ## O44: the decoded command runs -/

theorem withFetchWord_encodeWord {i : Instr} (h : i.wellFormed = true) (s : State) :
    s.withFetchWord 16 (encodeWord i) = placeFrame i.code s := by
  simp only [State.withFetchWord, decodeTableWord_encodeWord h]

/-- A placed frame waits at DISPATCH for the command its code byte names. -/
theorem running_placeFrame {i : Instr} (h : i.wellFormed = true) (s : State) :
    running (placeFrame i.code s) = some i := by
  rw [running_dispatch rfl]
  exact congrArg some (decodeCode_code h)

/-- Settles O44: at DISPATCH `cmd` decodes to the command that runs, and placing a frame gives `SEQ_MAIN` the turn. -/
theorem stepRunsTheDecodedCommand : Obligations.StepRunsTheDecodedCommand := by
  unfold Obligations.StepRunsTheDecodedCommand
  refine ⟨fun s i ha hq hd => ?decoded, fun s i ha hr => step_of_running ha hr, fun s i hi => ?placed⟩
  case decoded =>
    have hcode : decodeCode s.regs.cmd = i := by
      obtain ⟨c, hbytes, rfl⟩ := decode_eq_ok hd
      cases hbytes
      rfl
    exact step_of_running ha (by rw [running_dispatch hq, hcode])
  case placed =>
    rw [withFetchWord_encodeWord hi]
    exact step_of_running rfl (running_placeFrame hi s)

end Sys2Proof.Machine

/-! # O40: where `SEQ_MAIN` reads `active_flag` (41_dispatcher.md R207) -/

namespace Sys2Proof.Machine

open Sys2Proof

variable {s : State} {b : Bool}

/-- The state with another `active_flag`. -/
def setFlag (b : Bool) (s : State) : State := { s with activeFlag := b }

/-- An update of the state that neither reads nor writes `active_flag`. -/
def FlagFree (b : Bool) (f : State → State) (s : State) : Prop := f (setFlag b s) = setFlag b (f s)

/-- A step that neither reads nor writes `active_flag`. -/
def FlagFreeStep (b : Bool) (f : State → Result) (s : State) : Prop :=
  f (setFlag b s) = mapNext (setFlag b) (f s)

/-- The states of the sequencer in which a command's step reads or writes `active_flag`: the loop tops and DONE. -/
def flagStates : List Seq := [.rdTop, .bcTop, .wrTop, .done]

@[simp] theorem setFlag_cfg (b : Bool) (s : State) : (setFlag b s).cfg = s.cfg := rfl
@[simp] theorem setFlag_seq (b : Bool) (s : State) : (setFlag b s).seq = s.seq := rfl
@[simp] theorem activeProfile_setFlag (b : Bool) (s : State) : activeProfile (setFlag b s) = activeProfile s := rfl

theorem FlagFree.next {f : State → State} (h : FlagFree b f s) : FlagFreeStep b (fun u => .next (f u)) s :=
  congrArg Host.Outcome.next h

theorem FlagFree.comp {f g : State → State} (hf : FlagFree b f (g s)) (hg : FlagFree b g s) :
    FlagFree b (fun u => f (g u)) s :=
  (congrArg f hg).trans hf

/-- A branch on a condition that does not read the flag. -/
theorem FlagFree.ite {c : State → Prop} [DecidablePred c] {f g : State → State} (hc : c (setFlag b s) ↔ c s)
    (hf : FlagFree b f s) (hg : FlagFree b g s) : FlagFree b (fun u => if c u then f u else g u) s :=
  (if_congr hc hf hg).trans (apply_ite (setFlag b) _ _ _).symm

theorem FlagFreeStep.ite {c : State → Prop} [DecidablePred c] {f g : State → Result} (hc : c (setFlag b s) ↔ c s)
    (hf : FlagFreeStep b f s) (hg : FlagFreeStep b g s) : FlagFreeStep b (fun u => if c u then f u else g u) s :=
  (if_congr hc hf hg).trans (apply_ite (mapNext (setFlag b)) _ _ _).symm

/-! ## The pieces of a step

An update without a branch commutes with `setFlag` by computation (`rfl`); these are the pieces that branch. -/

theorem flagFree_cursorNext (p : Profile) (top last : Seq) (s : State) : FlagFree b (cursorNext p top last) s :=
  .ite Iff.rfl (f := goto last) (g := fun u => goto top (setCursor _ u)) rfl rfl

theorem flagFree_program (s : State) : FlagFree b program s :=
  .ite Iff.rfl rfl rfl

theorem flagFree_pulseDeassert (p : Profile) (s : State) : FlagFree b (pulseDeassert p) s := by
  have hprogram := flagFree_program (b := b)
    { setCtl (s.bus.ctl.setLine p.pulseLine p.pulseLevel.inv) s with pulsing := false }
  exact congrArg (raiseEvent (.programCycle s.bus.addr s.bus.dout)) hprogram

theorem flagFree_selectProfile (k : Byte) (s : State) : FlagFree b (selectProfile k) s := by
  unfold FlagFree selectProfile
  rw [setFlag_cfg]
  split
  · rfl
  · split <;> rfl

/-! ## The combinators -/

/-- Whether a pop takes, holds or underflows is told by the FIFO and the wait. -/
theorem flagFreeStep_withPop {k : Byte → State → State} (hk : ∀ v u, FlagFree b (k v) u) (s : State) :
    FlagFreeStep b (fun u => withPop u fun v w => .next (k v w)) s := by
  unfold FlagFreeStep
  beta_reduce
  rcases withPop_cases s fun v w => .next (k v w) with
    ⟨hw, h0, e⟩ | ⟨hw, h0, hp, e⟩ | ⟨hw, h0, hp, e⟩ | ⟨hw, e⟩ <;> rw [e]
  · rw [withPop_data (s := setFlag b s) _ hw h0]
    exact congrArg Host.Outcome.next (hk (oldest s) (popData s))
  · rw [withPop_block (s := setFlag b s) _ hw h0 hp]
    rfl
  · rw [withPop_underflow (s := setFlag b s) _ hw h0 hp]
    rfl
  · rw [withPop_resume (s := setFlag b s) _ hw]
    exact congrArg Host.Outcome.next (hk s.cfg.sentinel (popResume s))

theorem flagFreeStep_withProfile {k : Profile → State → Result} (hk : ∀ p, FlagFreeStep b (k p) s) :
    FlagFreeStep b (fun u => withProfile u fun p => k p u) s := by
  simp only [FlagFreeStep, withProfile, activeProfile_setFlag]
  split
  · exact hk _
  · rfl

theorem flagFreeStep_withProfile_next {k : Profile → State → State} (hk : ∀ p, FlagFree b (k p) s) :
    FlagFreeStep b (fun u => withProfile u fun p => .next (k p u)) s :=
  flagFreeStep_withProfile fun p => (hk p).next

theorem flagFreeStep_atTarget {p : Profile} {f : State → State} (hf : FlagFree b f s) :
    FlagFreeStep b (fun u => atTarget p u (f u)) s :=
  .ite Iff.rfl hf.next rfl

/-! ## The commands -/

theorem flagFreeStep_abortStep (s : State) : FlagFreeStep b abortStep s :=
  flagFreeStep_withProfile_next (k := fun p u => goto .done (emit (textAborted u.regs.abortOp)
    (raiseEvent (.operationAborted u.regs.abortOp u.regs.cursor) (busSafe p u)))) fun _ => rfl

theorem flagFreeStep_readSample (p : Profile) (s : State) : FlagFreeStep b (readSample p) s :=
  flagFreeStep_atTarget (flagFree_cursorNext p _ _
    (emit (dumpItem p.size s.regs.cursor (busByte p.ctlRead s)) (sample p.ctlRead s)))

theorem flagFreeStep_blankSample (p : Profile) (s : State) : FlagFreeStep b (blankSample p) s :=
  flagFreeStep_atTarget (.ite Iff.rfl (flagFree_cursorNext p _ _ (sample p.ctlBlank s)) rfl)

theorem flagFreeStep_writePulse (p : Profile) (s : State) : FlagFreeStep b (writePulse p) s :=
  .ite Iff.rfl (flagFreeStep_atTarget (.comp (flagFree_cursorNext p _ _ _) (flagFree_pulseDeassert p s))) rfl

theorem flagFreeStep_execRead (hf : s.seq ∉ flagStates) : FlagFreeStep b execRead s := by
  unfold FlagFreeStep execRead
  rw [setFlag_seq]
  split <;> rename_i hq
  · rfl
  · exact absurd (by simp [hq, flagStates]) hf
  · rfl
  · exact flagFreeStep_withProfile_next (k := fun p => enableRead p.ctlRead .rdSample) fun _ => rfl
  · exact flagFreeStep_withProfile fun p => flagFreeStep_readSample p s
  · exact flagFreeStep_withProfile_next (k := fun p u => goto .done (busSafe p u)) fun _ => rfl
  · exact flagFreeStep_abortStep s
  · exact absurd (by simp [hq, flagStates]) hf
  · rfl

theorem flagFreeStep_execBlankCheck (hf : s.seq ∉ flagStates) : FlagFreeStep b execBlankCheck s := by
  unfold FlagFreeStep execBlankCheck
  rw [setFlag_seq]
  split <;> rename_i hq
  · rfl
  · exact absurd (by simp [hq, flagStates]) hf
  · rfl
  · exact flagFreeStep_withProfile_next (k := fun p => enableRead p.ctlBlank .bcSample) fun _ => rfl
  · exact flagFreeStep_withProfile fun p => flagFreeStep_blankSample p s
  · exact flagFreeStep_withProfile_next (k := fun p u => goto .done (emit textOk (busSafe p u))) fun _ => rfl
  · exact flagFreeStep_abortStep s
  · exact absurd (by simp [hq, flagStates]) hf
  · rfl

theorem flagFreeStep_execWrite (hf : s.seq ∉ flagStates) : FlagFreeStep b execWrite s := by
  unfold FlagFreeStep execWrite
  rw [setFlag_seq]
  split <;> rename_i hq
  · rfl
  · exact absurd (by simp [hq, flagStates]) hf
  · exact flagFreeStep_withPop (k := fun v u => goto .wrLo (setCHi v u)) (fun _ _ => rfl) s
  · exact flagFreeStep_withPop (k := fun v u => goto .wrDrive (setCLo v u)) (fun _ _ => rfl) s
  · exact flagFreeStep_withProfile_next (k := driveData) fun _ => rfl
  · exact flagFreeStep_withProfile fun p => flagFreeStep_writePulse p s
  · exact flagFreeStep_withProfile_next (k := fun p u => goto .done (emit textOk (busSafe p u))) fun _ => rfl
  · exact flagFreeStep_abortStep s
  · exact absurd (by simp [hq, flagStates]) hf
  · rfl

theorem flagFreeStep_execIdentify (hf : s.seq ∉ flagStates) : FlagFreeStep b execIdentify s := by
  unfold FlagFreeStep execIdentify
  rw [setFlag_seq]
  split <;> rename_i hq
  · rfl
  · exact flagFreeStep_withProfile_next (k := fun p u => goto .done (emit p.ident u)) fun _ => rfl
  · exact absurd (by simp [hq, flagStates]) hf
  · rfl

theorem flagFreeStep_execSetDeviceType (hf : s.seq ∉ flagStates) : FlagFreeStep b execSetDeviceType s := by
  unfold FlagFreeStep execSetDeviceType
  rw [setFlag_seq, setFlag_cfg]
  split <;> rename_i hq
  · split <;> rfl
  · exact flagFreeStep_withPop (k := fun v u => goto .done (selectProfile v u))
      (fun v u => .comp rfl (flagFree_selectProfile v u)) s
  · exact absurd (by simp [hq, flagStates]) hf
  · rfl

theorem flagFreeStep_execInitBaud (hf : s.seq ∉ flagStates) : FlagFreeStep b execInitBaud s := by
  unfold FlagFreeStep execInitBaud
  rw [setFlag_seq]
  split <;> rename_i hq
  · rfl
  · rfl
  · exact absurd (by simp [hq, flagStates]) hf
  · rfl

theorem flagFreeStep_execReserved (c : Byte) (hf : s.seq ∉ flagStates) : FlagFreeStep b (execReserved c) s := by
  unfold FlagFreeStep execReserved
  rw [setFlag_seq]
  split <;> rename_i hq
  · rfl
  · exact absurd (by simp [hq, flagStates]) hf
  · rfl

/-- A meaning neither reads nor writes `active_flag` outside the loop tops and DONE. -/
theorem flagFreeStep_exec (i : Instr) (hf : s.seq ∉ flagStates) : FlagFreeStep b (exec i) s := by
  cases i with
  | read => exact flagFreeStep_execRead hf
  | write => exact flagFreeStep_execWrite hf
  | blankCheck => exact flagFreeStep_execBlankCheck hf
  | identify => exact flagFreeStep_execIdentify hf
  | setDeviceType => exact flagFreeStep_execSetDeviceType hf
  | initBaud => exact flagFreeStep_execInitBaud hf
  | reserved c => exact flagFreeStep_execReserved c hf

/-! ## The dispatcher -/

/-- Of the dispatcher's own steps only IDLE reads `active_flag`. -/
theorem flagFreeStep_dispatcherStep (hf : s.seq ≠ .idle) : FlagFreeStep b dispatcherStep s := by
  unfold FlagFreeStep dispatcherStep
  rw [setFlag_seq]
  split <;> rename_i hq
  · exact absurd hq hf
  · exact flagFreeStep_withPop (k := fun _ u => goto .frCode u) (fun _ _ => rfl) s
  · exact flagFreeStep_withPop (k := fun v u => goto .dispatch (setCmd v u)) (fun _ _ => rfl) s
  · rfl

/-- Settles O40: the pieces of a step carry the flag along unread, and DONE writes 0 over it. -/
theorem onlyIdleAndLoopTopsReadActiveFlag : Obligations.OnlyIdleAndLoopTopsReadActiveFlag := by
  unfold Obligations.OnlyIdleAndLoopTopsReadActiveFlag
  intro i s b
  refine ⟨flagFreeStep_exec i, fun hq => ?done, flagFreeStep_dispatcherStep⟩
  case done =>
    calc exec i (setFlag b s)
        = .next (doneStep (setFlag b s)) := exec_done i hq
      _ = .next (doneStep s) := rfl
      _ = exec i s := (exec_done i hq).symm

end Sys2Proof.Machine

/-! # O50: the device bus is safe (42_bus_sequencer.md R249) -/

namespace Sys2Proof.Machine

open Sys2Proof

variable {s t : State} {p : Profile}

/-! ## A pulse ends before WR_PULSE is left -/

/-- A pulse runs only inside WR_PULSE: of the moves of `SEQ_MAIN` only its first half begins one, and its second half
ends it (42_bus_sequencer.md R245). -/
theorem MainStep.wrPulse_of_pulsing (hs : MainStep s t) (h : s.pulsing = true → s.seq = .wrPulse) :
    t.pulsing = true → t.seq = .wrPulse := by
  cases hs with
  | idleHold | popHold | popFail => exact h
  | pulseOn p hq => exact fun _ => hq
  | pulseOff => simp
  | _ =>
    have hoff : s.pulsing = false := by simpa [‹s.seq = _›] using h
    simp [hoff]

/-! ## The key step -/

/-- The move of the key step that takes its byte, the only one that writes `active_prof` (43_commands.md R310, R311). -/
def SelectsProfile (s t : State) : Prop :=
  s.seq = .stKey ∧ t = goto .done (selectProfile (popValue s) (popState s))

theorem MainStep.activeProf_of_not_selectsProfile (hs : MainStep s t) (hkey : ¬ SelectsProfile s t) :
    t.activeProf = s.activeProf := by
  cases hs with
  | stKey hq => exact absurd ⟨hq, rfl⟩ hkey
  | _ => simp

/-- A selected profile is one of the table, and its disabled pattern is on the lines (43_commands.md R311). -/
theorem selectProfile_safe (k : Byte) (hp : ProfilesOk s)
    (h : ∀ p, activeProfile s = some p → s.bus.ctl = p.ctlIdle ∧ s.bus.dir = .input) :
    ProfilesOk (selectProfile k s) ∧ ∀ p, activeProfile (selectProfile k s) = some p →
      (selectProfile k s).bus.ctl = p.ctlIdle ∧ (selectProfile k s).bus.dir = .input := by
  rcases selectProfile_cases k s with e | ⟨i, p, -, hi, e⟩ <;> rw [e]
  · exact ⟨hp, h⟩
  · obtain ⟨hwf, hlt⟩ := hp
    obtain ⟨-, hin⟩ := h _ (List.getElem?_eq_getElem hlt)
    obtain ⟨hi', -⟩ := List.getElem?_eq_some_iff.1 hi
    refine ⟨⟨hwf, hi'⟩, fun p' hp' => ?_⟩
    obtain rfl : p = p' := Option.some.inj (hi.symm.trans hp')
    exact ⟨rfl, hin⟩

/-- The key step begins and ends with the lines safe, for the profile it leaves active. -/
theorem SelectsProfile.keeps (hkey : SelectsProfile s t) (hp : ProfilesOk s)
    (h : ∀ p, activeProfile s = some p → busAt p s) :
    ProfilesOk t ∧ ∀ p, activeProfile t = some p → busAt p t := by
  obtain ⟨hq, rfl⟩ := hkey
  refine selectProfile_safe (popValue s) (s := popState s) (by simpa [ProfilesOk] using hp) fun p hps => ?_
  have hsafe := h p (by simpa using hps)
  rw [busAt, hq] at hsafe
  simpa using hsafe

/-! ## The moves of `SEQ_MAIN` keep the lines -/

/-- `busAt` reads the sequencer's state, its registers, the bus and `pulsing`, and no other field. -/
theorem busAt_congr (hq : t.seq = s.seq) (hr : t.regs = s.regs) (hb : t.bus = s.bus) (hp : t.pulsing = s.pulsing) :
    busAt p t ↔ busAt p s := by
  simp only [busAt, hq, hr, hb, hp]

/-- An address below a size that 16 bits can count up to has a successor that is no wrapped zero. -/
theorem cursor_succ {a : Addr} (ha : a.toNat < p.size) (hsize : p.size ≤ 65536) (hn : a.toNat + 1 ≠ p.size) :
    (BitVec.ofNat 16 (a.toNat + 1)).toNat < p.size ∧ BitVec.ofNat 16 (a.toNat + 1) ≠ 0 := by
  have hval : (BitVec.ofNat 16 (a.toNat + 1)).toNat = a.toNat + 1 := Nat.mod_eq_of_lt (by omega)
  refine ⟨by omega, fun h0 => ?_⟩
  rw [h0] at hval
  simp at hval

/-- The loop advance keeps the lines, if they are right where the loop ends and where it goes on at a later address. -/
theorem cursorNext_busAt {top last : Seq} (ha : s.regs.cursor.toNat < p.size) (hsize : p.size ≤ 65536)
    (hlast : busAt p (goto last s))
    (htop : ∀ a : Addr, a.toNat < p.size → a ≠ 0 → busAt p (goto top (setCursor a s))) :
    busAt p (cursorNext p top last s) := by
  rcases cursorNext_cases p top last s with ⟨-, e⟩ | ⟨hn, e⟩ <;> rw [e]
  · exact hlast
  · obtain ⟨hlt, hne⟩ := cursor_succ ha hsize hn
    exact htop _ hlt hne

/-- The loop top leaves the lines alone, and ABORT asks for what the loop top asked for. -/
theorem loopTop_busAt {op : Op} {q : Seq} (hq : busAt p (goto q s)) (habort : busAt p (goto .abort (setAbortOp op s))) :
    busAt p (loopTop op q s) := by
  rcases loopTop_cases op q s with ⟨-, e⟩ | ⟨-, e⟩ <;> rw [e]
  · exact hq
  · exact habort

/-- The loop is entered at address 0, with the lines as the dispatcher leaves them. -/
theorem enterLoop_busAt {top : Seq} (hsize : 1 ≤ p.size) (hctl : s.bus.ctl = p.ctlIdle) (hdir : s.bus.dir = .input)
    (htop : top = .rdTop ∨ top = .bcTop ∨ top = .wrTop) : busAt p (enterLoop top s) := by
  have h0 : 0 < p.size := hsize
  rcases htop with rfl | rfl | rfl <;> simp [busAt, h0, hctl, hdir]

/-- Every move of `SEQ_MAIN` but the key step keeps the lines as its state asks, for the one active profile. -/
theorem MainStep.busAt_of (hs : MainStep s t) (hp : activeProfile s = some p) (hwf : s.cfg.WellFormed)
    (hpulse : s.pulsing = true → s.seq = .wrPulse) (hkey : ¬ SelectsProfile s t) (h : busAt p s) : busAt p t := by
  obtain ⟨hpos, hsize, hline⟩ := wellFormed_profile hwf hp
  have hsame : ∀ {p'}, activeProfile s = some p' → p = p' := fun hp' => Option.some.inj (hp.symm.trans hp')
  cases hs with
  | idleHold | popHold => exact h
  | popFail => exact (busAt_congr rfl rfl rfl rfl).2 h
  | stKey hq => exact absurd ⟨hq, rfl⟩ hkey
  | enterRead hq | enterBlankCheck hq | enterWrite hq =>
    rw [busAt, hq] at h
    obtain ⟨hctl, hdir⟩ := h
    exact enterLoop_busAt hpos hctl hdir (by simp)
  | rdTop hq | bcTop hq | wrTop hq =>
    rw [busAt, hq] at h
    exact loopTop_busAt h h
  | rdAddr hq | bcAddr hq =>
    rw [busAt, hq] at h
    obtain ⟨hlt, -, hctl⟩ := h
    exact ⟨hlt, rfl, rfl, hctl⟩
  | rdEn _ hq hp' | bcEn _ hq hp' =>
    obtain rfl := hsame hp'
    rw [busAt, hq] at h
    obtain ⟨hlt, hdir, haddr, -⟩ := h
    exact ⟨hlt, hdir, haddr, rfl⟩
  | rdSample _ hq hp' | bcPass _ hq hp' =>
    obtain rfl := hsame hp'
    rw [busAt, hq] at h
    obtain ⟨hlt, hdir, -, hctl⟩ := h
    exact cursorNext_busAt hlt hsize ⟨hdir, hctl⟩ fun a ha h0 => ⟨ha, hdir, hctl.trans (if_neg h0).symm⟩
  | rdEnd _ _ hp' | bcEnd _ _ hp' | bcFail _ _ hp' | wrEnd _ _ hp' | abort _ _ hp' =>
    obtain rfl := hsame hp'
    exact ⟨rfl, rfl⟩
  | wrDrive _ hq hp' =>
    obtain rfl := hsame hp'
    have hoff : s.pulsing = false := by simpa [hq] using hpulse
    rw [busAt, hq] at h
    obtain ⟨hlt, -⟩ := h
    simpa [busAt, hoff] using hlt
  | pulseOn _ hq hp' hoff =>
    obtain rfl := hsame hp'
    rw [busAt, hq] at h
    obtain ⟨hlt, hdir, haddr, hdout, hctl⟩ := h
    rw [if_neg (by simp [hoff])] at hctl
    rw [busAt, pulseAssert_seq, hq]
    refine ⟨hlt, hdir, haddr, hdout, ?_⟩
    rw [pulseAssert_bus, hctl]
    rfl
  | pulseOff _ hq hp' hon =>
    obtain rfl := hsame hp'
    rw [busAt, hq] at h
    obtain ⟨hlt, hdir, -, -, hctl⟩ := h
    have hback : (pulseDeassert p s).bus.ctl = p.ctlProg := by
      rw [pulseDeassert_bus, hctl, if_pos hon]
      exact setLine_back hline
    have hout : (pulseDeassert p s).bus.dir = .output := by simpa using hdir
    refine cursorNext_busAt (by simpa using hlt) hsize ⟨hout, hback⟩ fun a ha h0 => ?_
    exact ⟨ha, (if_neg h0).mpr ⟨hback, hout⟩⟩
  | _ => simpa [busAt, ‹s.seq = _›] using h

/-! ## Every agent keeps the device bus safe -/

/-- The key step by `SelectsProfile.keeps`; every other move by `MainStep.busAt_of`, the active profile being
the same. -/
theorem MainStep.busOk (hs : MainStep s t) (hp : ProfilesOk s) (h : BusOk s) : ProfilesOk t ∧ BusOk t := by
  obtain ⟨hlines, hpulse⟩ := h
  have hpulse' := hs.wrPulse_of_pulsing hpulse
  by_cases hkey : SelectsProfile s t
  · obtain ⟨hp', hlines'⟩ := hkey.keeps hp hlines
    exact ⟨hp', hlines', hpulse'⟩
  · have hprof := hs.activeProf_of_not_selectsProfile hkey
    have hsame : activeProfile t = activeProfile s := by rw [activeProfile, activeProfile, hprof, hs.cfg]
    refine ⟨by rwa [ProfilesOk, hs.cfg, hprof], fun p hpt => ?_, hpulse'⟩
    have hps : activeProfile s = some p := hsame ▸ hpt
    obtain ⟨hwf, -⟩ := hp
    exact hs.busAt_of hps hwf hpulse hkey (hlines p hps)

theorem hostStep_busOk (h : BusOk s) : BusOk (hostStep s) := by
  obtain ⟨hlines, hpulse⟩ := h
  refine ⟨fun p hp => ?_, by simpa using hpulse⟩
  exact (busAt_congr (by simp) (by simp) (by simp) (by simp)).2 (hlines p (by simpa [activeProfile] using hp))

/-! ## O50: the pulse line and the invariant -/

theorem level_inv_ne {v : Level} (h : v ≠ .hiZ) : v.inv ≠ v := by
  cases v with
  | hiZ => exact absurd rfl h
  | low | high => decide

/-- The lines of a Read or BlankCheck between two samples: the disabled pattern at first, a read pattern later on. -/
theorem mem_rests {c pat : Ctl} {a : Addr} (h : c = if a = 0 then p.ctlIdle else pat)
    (hpat : pat ∈ [p.ctlRead, p.ctlBlank]) : c ∈ [p.ctlIdle, p.ctlRead, p.ctlBlank] := by
  split at h
  · simp [h]
  · exact h ▸ List.mem_cons_of_mem _ hpat

/-- The lines of a Write between two pulses: the disabled pattern at first, the programming pattern later on. -/
theorem mem_rests_or_ctlProg {c : Ctl} {d : Dir} {a : Addr}
    (h : if a = 0 then c = p.ctlIdle ∧ d = .input else c = p.ctlProg ∧ d = .output) :
    c ∈ [p.ctlIdle, p.ctlRead, p.ctlBlank] ∨ c = p.ctlProg := by
  split at h
  · exact .inl (by simp [h])
  · exact .inr h.1

/-- Of the patterns that `busAt` asks for, only the profile's resting ones, the programming pattern and that of a
running pulse. -/
theorem ctl_of_busAt (h : busAt p s) :
    s.bus.ctl ∈ [p.ctlIdle, p.ctlRead, p.ctlBlank] ∨ s.bus.ctl = p.ctlProg ∨
      (s.seq = .wrPulse ∧ s.pulsing = true) := by
  rw [busAt] at h
  cases hq : s.seq <;> simp only [hq] at h
  case rdTop | rdAddr | bcTop | bcAddr =>
    obtain ⟨-, -, hctl⟩ := h
    exact .inl (mem_rests hctl (by simp))
  case rdEn | bcEn =>
    obtain ⟨-, -, -, hctl⟩ := h
    exact .inl (mem_rests hctl (by simp))
  case wrTop | wrHi | wrLo | wrDrive =>
    obtain ⟨-, hlines⟩ := h
    exact (mem_rests_or_ctlProg hlines).imp_right .inl
  case wrPulse =>
    obtain ⟨-, -, -, -, hctl⟩ := h
    cases hr : s.pulsing with
    | true => exact .inr (.inr ⟨rfl, rfl⟩)
    | false => exact .inr (.inl (by simpa [hr] using hctl))
  case wrEnd =>
    obtain ⟨-, hctl⟩ := h
    exact .inr (.inl hctl)
  case abort =>
    obtain ⟨-, hlines⟩ := h
    cases hop : s.regs.abortOp <;> simp only [hop] at hlines
    case read | blankCheck =>
      obtain ⟨-, hctl⟩ := hlines
      exact .inl (mem_rests hctl (by simp))
    case write => exact (mem_rests_or_ctlProg hlines).imp_right .inl
  all_goals exact .inl (by simp [h])

theorem not_restsInactive {c : Ctl} (hc : c ∈ [p.ctlIdle, p.ctlRead, p.ctlBlank])
    (hl : c.line p.pulseLine = p.pulseLevel) : ¬ restsInactive p := by
  rintro ⟨hidle, hread, hblank⟩
  simp only [List.mem_cons, List.not_mem_nil, or_false] at hc
  rcases hc with rfl | rfl | rfl
  · exact hidle hl
  · exact hread hl
  · exact hblank hl

/-- The programming pattern has the pulse line at its inactive level (42_bus_sequencer.md R231), so with the lines as
`busAt` asks the line is active only in a pulse or in a resting pattern. -/
theorem BusOk.pulseLineOk (h : BusOk s) (hp : ProfilesOk s) : PulseLineOk s := by
  intro p hps hl
  obtain ⟨hwf, -⟩ := hp
  obtain ⟨hlines, -⟩ := h
  obtain ⟨-, -, hinv⟩ := wellFormed_profile hwf hps
  rcases ctl_of_busAt (hlines p hps) with hrest | hprog | hpulse
  · exact .inr ⟨not_restsInactive hrest hl, hrest⟩
  · rw [hprog, hinv] at hl
    exact absurd hl (level_inv_ne (wellFormed_pulseLevel hwf hps))
  · exact .inl hpulse

/-- Settles O50: `busAt` is kept by each move of `SEQ_MAIN` and the host touches no line; its patterns put the pulse
line at its active level only in a pulse, or in a pattern that the profile itself rests on. -/
theorem everyStepKeepsTheBusSafe : Obligations.EveryStepKeepsTheBusSafe := by
  unfold Obligations.EveryStepKeepsTheBusSafe
  refine ⟨fun s t hp h hs => ?_, fun s hp h => ⟨h.pulseLineOk hp, fun p hps hrest hl => ?_⟩⟩
  · rcases step_cases hs with ⟨-, rfl⟩ | ⟨-, hm⟩
    · exact ⟨by simpa [ProfilesOk] using hp, hostStep_busOk (s := takeTurn s) h⟩
    · exact hm.busOk hp h
  · rcases h.pulseLineOk hp p hps hl with hpulse | ⟨hnot, -⟩
    · exact hpulse
    · exact absurd hrest hnot

end Sys2Proof.Machine

/-! # The steps of the bus cycles (42_bus_sequencer.md R240 to R245) -/

namespace Sys2Proof.Machine

open Sys2Proof

variable {s : State} {p : Profile}

/-! ## O24: the address and the enable step -/

/-- Settles O24: each of the four steps is one update of the bus. -/
theorem readCycleDrivesAddressThenPattern : Obligations.ReadCycleDrivesAddressThenPattern := by
  unfold Obligations.ReadCycleDrivesAddressThenPattern
  refine fun s => ⟨fun hq => ?rdAddr, fun hq => ?bcAddr, fun p hp => ⟨fun hq => ?rdEn, fun hq => ?bcEn⟩⟩
  case rdAddr => simp only [exec, execRead, hq]; rfl
  case bcAddr => simp only [exec, execBlankCheck, hq]; rfl
  case rdEn => simp only [exec, execRead, hq, withProfile_some hp]; rfl
  case bcEn => simp only [exec, execBlankCheck, hq, withProfile_some hp]; rfl

/-! ## O25, O26: the sample steps -/

theorem targetDrives_eq (pat : Ctl) (s : State) :
    targetDrives pat s = (s.target.fitted && decide (s.bus.dir = .input ∧ s.bus.ctl = pat)) := by
  rw [targetDrives, Bool.and_assoc, ← Bool.decide_and]

theorem exec_read_rdSample (hp : activeProfile s = some p) (hq : s.seq = .rdSample) (ha : s.bus.addr.toNat < p.size) :
    exec .read s = .next (cursorNext p .rdTop .rdEnd
      (emit (dumpItem p.size s.regs.cursor (busByte p.ctlRead s)) (sample p.ctlRead s))) := by
  simp only [exec, execRead, hq, withProfile_some hp, readSample, atTarget_lt ha]
  rfl

theorem exec_blankCheck_bcSample (hp : activeProfile s = some p) (hq : s.seq = .bcSample)
    (ha : s.bus.addr.toNat < p.size) :
    exec .blankCheck s = .next (if busByte p.ctlBlank s = 0xFF then cursorNext p .bcTop .bcEnd (sample p.ctlBlank s)
      else blankFail p (sample p.ctlBlank s)) := by
  simp only [exec, execBlankCheck, hq, withProfile_some hp, blankSample, atTarget_lt ha]
  rfl

/-- The loop advance in one update: the last address ends the loop, any other advances the cursor (43_commands.md R272,
R282, R293). -/
theorem cursorNext_eq (p : Profile) (top last : Seq) (s : State) : cursorNext p top last s =
    { s with
      regs := if s.regs.cursor.toNat + 1 = p.size then s.regs
        else { s.regs with cursor := BitVec.ofNat 16 (s.regs.cursor.toNat + 1) }
      unwritten := if s.regs.cursor.toNat + 1 = p.size then s.unwritten
        else s.unwritten.filter (fun x => x != .cursor)
      seq := if s.regs.cursor.toNat + 1 = p.size then last else top } := by
  rcases cursorNext_cases p top last s with ⟨h, e⟩ | ⟨h, e⟩ <;> rw [e]
  · simp only [if_pos h]; rfl
  · simp only [if_neg h]; rfl

/-- The byte of a sample and the whole state after it, in the terms of 42_bus_sequencer.md R242 and R243: `driven` says
whether a target answers the pattern, `d` is what the bus then carries. -/
theorem sample_of_driven (pat : Ctl) (s : State) {d : Byte} {driven : Bool}
    (hdriven : driven = (s.target.fitted && decide (s.bus.dir = .input ∧ s.bus.ctl = pat)))
    (hd : d = (if driven then memGet .target s.target.cells s.bus.addr.toNat else Config.freeByte s.draws)) :
    d = busByte pat s ∧ sample pat s =
      { s with
        draws := if driven then s.draws else s.draws + 1
        ev := s.ev ++ [.readCycle s.bus.addr d]
        regs := { s.regs with rdata := d }
        unwritten := s.unwritten.filter (fun x => x != .rdata) } := by
  rw [← targetDrives_eq] at hdriven
  subst hdriven hd
  exact ⟨rfl, rfl⟩

/-- BlankCheck's exit at a byte that is not erased, in one update (43_commands.md R283, 30_encoding.md R131). -/
theorem blankFail_eq (p : Profile) (s : State) : blankFail p s =
    { s with
      ev := s.ev ++ [.verificationFailure s.regs.cursor s.regs.rdata]
      out := s.out ++ textFail s.regs.cursor s.regs.rdata
      bus := { s.bus with ctl := p.ctlIdle, dir := .input }
      seq := .done } := by
  simp only [blankFail, goto, busSafe, setDir, setCtl, emit, raiseEvent]

/-- The separator after the last address, said of the address itself (30_encoding.md R130). -/
theorem dumpItem_eq {size : Nat} (h : 0 < size) (a : Addr) (d : Byte) : dumpItem size a d =
    (if a.toNat % 16 = 0 then hex4 a ++ [0x3A, 0x20] else []) ++ hex2 d ++
      (if a.toNat % 16 = 15 ∨ a.toNat = size - 1 then [0x0A] else [0x20]) := by
  have hlast : a.toNat = size - 1 ↔ a.toNat + 1 = size := by omega
  simp only [dumpItem, hlast]

/-- Settles O25: the sample, the printed item and the loop advance, one after the other. -/
theorem readSamplePrintsTheByte : Obligations.ReadSamplePrintsTheByte := by
  unfold Obligations.ReadSamplePrintsTheByte
  intro s p d driven hp hq ha hdriven hd
  obtain ⟨hbyte, hsample⟩ := sample_of_driven _ s hdriven hd
  rw [exec_read_rdSample hp hq ha, ← hbyte, hsample, dumpItem_eq (Nat.zero_lt_of_lt ha), cursorNext_eq]
  rfl

/-- Settles O26: after the sample, the byte decides between `blank_fail()` and the loop advance. -/
theorem blankSampleComparesWithErased : Obligations.BlankSampleComparesWithErased := by
  unfold Obligations.BlankSampleComparesWithErased
  intro s p d driven hp hq ha hdriven hd
  obtain ⟨hbyte, hsample⟩ := sample_of_driven _ s hdriven hd
  rw [exec_blankCheck_bcSample hp hq ha, ← hbyte, hsample]
  refine ⟨fun hne => ?fail, fun he hlast => ?last, fun he hlast => ?next⟩
  case fail =>
    rw [if_neg hne]
    simp only [blankFail_eq, textFail, textFailHead, hex4, List.append_assoc]
    rfl
  case last =>
    rw [if_pos he, cursorNext_eq]
    simp only [if_pos hlast]
  case next =>
    rw [if_pos he, cursorNext_eq]
    simp only [if_neg hlast]

/-! ## O30, O31: the programming cycle -/

/-- Joining two nibbles is putting the high one's bits before the low one's (30_encoding.md R127). -/
theorem joinNibbles_eq_append (hi lo : Nibble) : joinNibbles hi lo = hi ++ lo := by
  apply BitVec.eq_of_toNat_eq
  have hlo : lo.toNat < 2 ^ 4 := lo.isLt
  have hhi : hi.toNat < 2 ^ 4 := hi.isLt
  rw [BitVec.toNat_append, ← Nat.shiftLeft_add_eq_or_of_lt hlo, Nat.shiftLeft_eq, joinNibbles, BitVec.toNat_ofNat]
  omega

theorem exec_write_wrDrive (hp : activeProfile s = some p) (hq : s.seq = .wrDrive) :
    exec .write s = .next (driveData p s) := by
  simp only [exec, execWrite, hq, withProfile_some hp]

theorem exec_write_pulseOn (hp : activeProfile s = some p) (hq : s.seq = .wrPulse) (hr : s.pulsing = false) :
    exec .write s = .next (pulseAssert p s) := by
  simp only [exec, execWrite, hq, withProfile_some hp, writePulse, hr]
  rfl

/-- The second half of the pulse, up to the loop advance, in one update (42_bus_sequencer.md R245). -/
theorem pulseDeassert_eq (p : Profile) (s : State) : pulseDeassert p s =
    { s with
      bus := { s.bus with ctl := s.bus.ctl.setLine p.pulseLine p.pulseLevel.inv }
      pulsing := false
      target := if s.target.fitted = true then
          { s.target with
            cells := memSet .target s.target.cells s.bus.addr.toNat
              (Config.programFn (cell s s.bus.addr) s.bus.dout) }
        else s.target
      ev := s.ev ++ [.programCycle s.bus.addr s.bus.dout] } := by
  unfold pulseDeassert program
  cases h : s.target.fitted <;> simp [h, raiseEvent, setCtl, cell]

/-- Settles O30: the drive step in one update, with the byte as two nibbles. -/
theorem driveStepPutsTheByteOnTheBus : Obligations.DriveStepPutsTheByteOnTheBus := by
  unfold Obligations.DriveStepPutsTheByteOnTheBus
  rintro s p d hp hq rfl
  rw [exec_write_wrDrive hp hq, driveData_eq, joinNibbles_eq_append]

/-- Settles O31: the first half moves one line; the second moves it back, programs, records and advances. -/
theorem pulseStepProgramsTheCell : Obligations.PulseStepProgramsTheCell := by
  unfold Obligations.PulseStepProgramsTheCell
  intro s p hp hq
  refine ⟨fun hoff => ?_, fun hon ha => ?_⟩
  · rw [exec_write_pulseOn hp hq hoff]
    rfl
  · rw [exec_write_pulseOff hp hq hon ha, cursorNext_eq, pulseDeassert_eq]
    rfl

end Sys2Proof.Machine

/-! # The single steps of the commands (43_commands.md) -/

namespace Sys2Proof.Machine

open Sys2Proof

variable {s : State} {p : Profile}

/-! ## O23: the loop tops -/

theorem exec_read_rdTop (hq : s.seq = .rdTop) : exec .read s = .next (loopTop .read .rdAddr s) := by
  simp only [exec, execRead, hq]

theorem exec_blankCheck_bcTop (hq : s.seq = .bcTop) :
    exec .blankCheck s = .next (loopTop .blankCheck .bcAddr s) := by
  simp only [exec, execBlankCheck, hq]

theorem exec_write_wrTop (hq : s.seq = .wrTop) : exec .write s = .next (loopTop .write .wrHi s) := by
  simp only [exec, execWrite, hq]

/-- Settles O23: the three loop tops are one operation, and it is the case split on `active_flag`. -/
theorem loopTopChecksActiveFlag : Obligations.LoopTopChecksActiveFlag := by
  unfold Obligations.LoopTopChecksActiveFlag
  refine fun s => ⟨fun hq => ?read, fun hq => ?blankCheck, fun hq => ?write⟩
  case read => rw [exec_read_rdTop hq]; rfl
  case blankCheck => rw [exec_blankCheck_bcTop hq]; rfl
  case write => rw [exec_write_wrTop hq]; rfl

/-! ## O27: the normal exits -/

theorem exec_read_rdEnd (hp : activeProfile s = some p) (hq : s.seq = .rdEnd) :
    exec .read s = .next (goto .done (busSafe p s)) := by
  simp only [exec, execRead, hq, withProfile_some hp]

theorem exec_blankCheck_bcEnd (hp : activeProfile s = some p) (hq : s.seq = .bcEnd) :
    exec .blankCheck s = .next (goto .done (emit textOk (busSafe p s))) := by
  simp only [exec, execBlankCheck, hq, withProfile_some hp]

theorem exec_write_wrEnd (hp : activeProfile s = some p) (hq : s.seq = .wrEnd) :
    exec .write s = .next (goto .done (emit textOk (busSafe p s))) := by
  simp only [exec, execWrite, hq, withProfile_some hp]

/-- Settles O27: each exit is the safe state, and "OK" for two of them. -/
theorem normalExitRestoresTheBus : Obligations.NormalExitRestoresTheBus := by
  unfold Obligations.NormalExitRestoresTheBus
  refine fun s p hp => ⟨fun hq => ?read, fun hq => ?blankCheck, fun hq => ?write⟩
  case read => rw [exec_read_rdEnd hp hq]; rfl
  case blankCheck => rw [exec_blankCheck_bcEnd hp hq]; rfl
  case write => rw [exec_write_wrEnd hp hq]; rfl

/-! ## O28: the two pops of Write -/

/-- Settles O28: with a byte stored the pop takes it, and an empty `Block` pop holds. -/
theorem writePopsTwoCharacters : Obligations.WritePopsTwoCharacters := by
  unfold Obligations.WritePopsTwoCharacters
  refine fun s hw => ⟨fun hq ho => ?hi, fun hq ho => ?lo, fun hq h0 hp => ?held⟩
  case hi => rw [exec_write_wrHi hq, withPop_data _ hw ho]; rfl
  case lo => rw [exec_write_wrLo hq, withPop_data _ hw ho]; rfl
  case held =>
    rcases hq with hq | hq
    · rw [exec_write_wrHi hq, withPop_block _ hw h0 hp]
    · rw [exec_write_wrLo hq, withPop_block _ hw h0 hp]

/-! ## O33: the error exit -/

/-- The commands that iterate over the target. -/
def iterating : List Instr := [.read, .blankCheck, .write]

/-- ABORT is one step, the same for the three iterating commands (43_commands.md R320). -/
theorem exec_abort {i : Instr} (hi : i ∈ iterating) (hq : s.seq = .abort) :
    exec i s = abortStep s := by
  simp only [iterating, List.mem_cons, List.not_mem_nil, or_false] at hi
  rcases hi with rfl | rfl | rfl
  · simp only [exec, execRead, hq]
  · simp only [exec, execBlankCheck, hq]
  · simp only [exec, execWrite, hq]

/-- Settles O33: the step is `abortStep`, whose message is spelled by the operation. -/
theorem abortRestoresTheBusAndReports : Obligations.AbortRestoresTheBusAndReports := by
  unfold Obligations.AbortRestoresTheBusAndReports
  intro i s p hi hp hq
  rw [exec_abort hi hq, abortStep, withProfile_some hp]
  rfl

/-! ## O34, O35: Identify and InitBaud -/

theorem exec_identify_ident (hp : activeProfile s = some p) (hq : s.seq = .ident) :
    exec .identify s = .next (goto .done (emit p.ident s)) := by
  simp only [exec, execIdentify, hq, withProfile_some hp]

/-- Settles O34: the step reads the active profile and nothing else. -/
theorem identifyEmitsTheIdentity : Obligations.IdentifyEmitsTheIdentity := by
  unfold Obligations.IdentifyEmitsTheIdentity
  intro s p hp hq
  rw [exec_identify_ident hp hq]
  rfl

theorem exec_initBaud_baud (hq : s.seq = .baud) : exec .initBaud s = .next (goto .done (emit textInit s)) := by
  simp only [exec, execInitBaud, hq]

/-- Settles O35: the step prints one text. -/
theorem initBaudAcknowledges : Obligations.InitBaudAcknowledges := by
  unfold Obligations.InitBaudAcknowledges
  intro s hq
  rw [exec_initBaud_baud hq]
  rfl

/-! ## O36, O37: the key step -/

/-- In MultiFamily a key byte selects the one profile that has it (42_bus_sequencer.md R231, 30_encoding.md R128). -/
theorem keyIndex_of_getElem? {c : Config} (hwf : c.WellFormed) (hv : c.variant = .multiFamily) {i : Nat}
    (hp : c.profiles[i]? = some p) : keyIndex c.profiles p.key = some i := by
  have hkeys : (c.profiles.map Profile.key).Nodup := by simpa [Config.passes, hv] using hwf .keys
  obtain ⟨hi, rfl⟩ := List.getElem?_eq_some_iff.1 hp
  rw [keyIndex, List.findIdx?_eq_some_iff_getElem]
  refine ⟨hi, by simp, fun j hj => ?_⟩
  have hne := List.pairwise_iff_getElem.1 hkeys j i (by simp; omega) (by simpa using hi) hj
  simpa using hne

theorem keyIndex_eq_none {ps : List Profile} {k : Byte} (h : ∀ p ∈ ps, p.key ≠ k) : keyIndex ps k = none := by
  simpa [keyIndex] using h

theorem selectProfile_of_key {k : Byte} {i : Nat} (hk : keyIndex s.cfg.profiles k = some i)
    (hp : s.cfg.profiles[i]? = some p) :
    selectProfile k s = emit textOk (setCtl p.ctlIdle { s with activeProf := i }) := by
  simp only [selectProfile, hk, hp]

theorem selectProfile_of_no_key {k : Byte} (hk : keyIndex s.cfg.profiles k = none) : selectProfile k s = s := by
  simp only [selectProfile, hk]

theorem popValue_of_data (hw : s.udfWait = false) : popValue s = oldest s := by
  simp [popValue, hw]

theorem popValue_of_wait (hw : s.udfWait = true) : popValue s = s.cfg.sentinel := by
  simp [popValue, hw]

theorem popState_of_data (hw : s.udfWait = false) : popState s = popData s := by
  simp [popState, hw]

theorem popState_of_wait (hw : s.udfWait = true) : popState s = popResume s := by
  simp [popState, hw]

/-- The key step where its pop returns a value now (40_fifo_flow.md R164, R166). -/
theorem exec_setDeviceType_takes (hq : s.seq = .stKey) (ht : PopTakes s) :
    exec .setDeviceType s = .next (goto .done (selectProfile (popValue s) (popState s))) := by
  rw [exec_setDeviceType_stKey hq]
  cases hw : s.udfWait with
  | true => rw [withPop_resume _ hw, popValue_of_wait hw, popState_of_wait hw]
  | false => rw [withPop_data _ hw (ht.resolve_left (by simp [hw])), popValue_of_data hw, popState_of_data hw]

/-- The key step whose key belongs to profile `i` (43_commands.md R311). -/
theorem exec_setDeviceType_known {i : Nat} (hq : s.seq = .stKey) (hv : s.cfg.variant = .multiFamily)
    (hwf : s.cfg.WellFormed) (ht : PopTakes s) (hp : s.cfg.profiles[i]? = some p) (hk : p.key = popValue s) :
    exec .setDeviceType s =
      .next (goto .done (emit textOk (setCtl p.ctlIdle { popState s with activeProf := i }))) := by
  have hi : keyIndex s.cfg.profiles (popValue s) = some i := hk ▸ keyIndex_of_getElem? hwf hv hp
  rw [exec_setDeviceType_takes hq ht,
    selectProfile_of_key (s := popState s) (by rwa [popState_cfg]) (by rwa [popState_cfg])]

/-- Settles O36: keys are pairwise distinct, so the first profile with the key is the one named; the pop's other
outcomes are its underflow and its hold. -/
theorem keyByteSelectsTheProfile : Obligations.KeyByteSelectsTheProfile := by
  unfold Obligations.KeyByteSelectsTheProfile
  intro s hq hv hwf
  refine ⟨fun k t ht => ?taken, fun hw h0 hp => ?underflow, fun hw h0 hp => ?held⟩
  case taken =>
    obtain ⟨htakes, rfl, rfl⟩ : PopTakes s ∧ k = popValue s ∧ t = popState s := by
      rcases ht with ⟨hw, ho, rfl, rfl⟩ | ⟨hw, rfl, rfl⟩
      · exact ⟨.inr ho, (popValue_of_data hw).symm, (popState_of_data hw).symm⟩
      · exact ⟨.inl hw, (popValue_of_wait hw).symm, (popState_of_wait hw).symm⟩
    refine ⟨fun i p hp hk => ?known, fun hn => ?unknown⟩
    case known =>
      rw [exec_setDeviceType_known hq hv hwf htakes hp hk, ← popState_bus s, ← popState_out s]
      rfl
    case unknown =>
      have hnone := keyIndex_eq_none hn
      rw [exec_setDeviceType_takes hq htakes, selectProfile_of_no_key (s := popState s) (by rwa [popState_cfg])]
      rfl
  case underflow => rw [exec_setDeviceType_stKey hq, withPop_underflow _ hw h0 hp]; rfl
  case held => rw [exec_setDeviceType_stKey hq, withPop_block _ hw h0 hp]

/-- Settles O37: the key step leaves profile `i` active, and Identify prints what the active profile names. -/
theorem identityFollowsTheProfileSwitch : Obligations.IdentityFollowsTheProfileSwitch := by
  unfold Obligations.IdentityFollowsTheProfileSwitch
  intro s i p k hq hv hwf hk hp hkey
  obtain ⟨htakes, rfl⟩ : PopTakes s ∧ k = popValue s := by
    rcases hk with ⟨hw, ho, rfl⟩ | ⟨hw, rfl⟩
    · exact ⟨.inr ho, (popValue_of_data hw).symm⟩
    · exact ⟨.inl hw, (popValue_of_wait hw).symm⟩
  refine ⟨_, exec_setDeviceType_known hq hv hwf htakes hp hkey, rfl, fun u hcfg hprof hqu => ?_⟩
  refine identifyEmitsTheIdentity u p ?_ hqu
  rw [hcfg, hprof]
  simpa using hp

end Sys2Proof.Machine

/-! # The frames of the commands (43_commands.md)

What each move of `SEQ_MAIN` leaves alone, one lemma per group of fields: the states of the sequencer outside which the
fields stay as they are. A command's frame is then a list of these, its own states being no such state. -/

namespace Sys2Proof.Machine

open Sys2Proof

variable {s t : State} {i : Instr}

/-! ## A command has a step in its own states only -/

theorem seq_mem_statesOf (h : exec i s = .next t) : s.seq ∈ statesOf i := by
  have ha := exec_answers i s
  rw [h] at ha
  exact ha.1

/-! ## The fields that every command leaves alone -/

theorem MainStep.ovfSticky (h : MainStep s t) : t.ovfSticky = s.ovfSticky := by
  cases h <;> simp

theorem MainStep.schedule (h : MainStep s t) : t.env.script = s.env.script ∧ t.env.turns = s.env.turns := by
  cases h <;> simp

theorem MainStep.fitted (h : MainStep s t) : t.target.fitted = s.target.fitted := by
  rcases h.target with e | ⟨-, -, e⟩ <;> rw [e]
  rw [program_rest]

/-! ## The flags and the FIFO -/

/-- Before DONE no command writes `active_flag`, the environment, or a slot, and only IDLE raises `busy`
(41_dispatcher.md R201, R206). -/
theorem MainStep.flags_eq_before_done (h : MainStep s t) (hq : s.seq ≠ .done) :
    t.activeFlag = s.activeFlag ∧ (s.seq ≠ .idle → t.busy = s.busy) ∧ t.env = s.env ∧
      t.fifo.slots = s.fifo.slots ∧ t.fifo.tail = s.fifo.tail := by
  have hpop : (popState s).fifo.slots = s.fifo.slots ∧ (popState s).fifo.tail = s.fifo.tail := by
    rw [popState_rest]
    exact ⟨rfl, rfl⟩
  cases h with
  | idle hi => simp [hi]
  | frMark | frCode | wrHi | wrLo | stKey => simp [hpop]
  | done hd => exact absurd hd hq
  | _ => simp

/-- Only a pop begins or ends the wait of an underflow (40_fifo_flow.md R166). -/
theorem MainStep.udf_eq (h : MainStep s t) (hq : s.seq ∉ popStates) :
    t.udfSticky = s.udfSticky ∧ t.udfWait = s.udfWait := by
  cases h with
  | popHold hp | popFail hp => exact absurd hp hq
  | frMark hp | frCode hp | wrHi hp | wrLo hp | stKey hp => simp [popStates, hp] at hq
  | _ => simp

/-- Only a pop and DONE write the FIFO and the flow signal (40_fifo_flow.md R164, R168, R169). -/
theorem MainStep.fifo_eq (h : MainStep s t) (hq : s.seq ∉ popStates) (hd : s.seq ≠ .done) :
    t.fifo = s.fifo ∧ t.fcPause = s.fcPause := by
  cases h with
  | popHold hp | popFail hp => exact absurd hp hq
  | frMark hp | frCode hp | wrHi hp | wrLo hp | stKey hp => simp [popStates, hp] at hq
  | done hp => exact absurd hp hd
  | _ => simp

/-! ## The device bus -/

theorem MainStep.pulsing_eq (h : MainStep s t) (hq : s.seq ≠ .wrPulse) : t.pulsing = s.pulsing := by
  cases h with
  | pulseOn p hp | pulseOff p hp => exact absurd hp hq
  | _ => simp

/-- The states whose step writes the device bus (42_bus_sequencer.md R240 to R245, R248; 43_commands.md R311). -/
def busStates : List Seq :=
  [.rdAddr, .rdEn, .rdEnd, .bcAddr, .bcEn, .bcSample, .bcEnd, .wrDrive, .wrPulse, .wrEnd, .stKey, .abort]

theorem MainStep.bus_eq (h : MainStep s t) (hq : s.seq ∉ busStates) : t.bus = s.bus := by
  cases h with
  | rdAddr hp | bcAddr hp | stKey hp => simp [busStates, hp] at hq
  | rdEn p hp | rdEnd p hp | bcEn p hp | bcFail p hp | bcEnd p hp | wrDrive p hp | pulseOn p hp | pulseOff p hp
  | wrEnd p hp | abort p hp => simp [busStates, hp] at hq
  | _ => simp

/-- The key step writes `CTL` only (43_commands.md R311). -/
theorem selectProfile_bus (k : Byte) (s : State) :
    (selectProfile k s).bus = { s.bus with ctl := (selectProfile k s).bus.ctl } := by
  rcases selectProfile_cases k s with e | ⟨i, p, -, -, e⟩ <;> rw [e]
  rfl

theorem MainStep.bus_of_stKey (h : MainStep s t) (hq : s.seq = .stKey) : t.bus = { s.bus with ctl := t.bus.ctl } := by
  cases h with
  | popHold | popFail => rfl
  | stKey =>
    rw [goto_bus, selectProfile_bus, popState_bus]
  | _ => simp [hq] at *

/-- Only WR_DRIVE writes `dout` (42_bus_sequencer.md R244). -/
theorem MainStep.dout_eq (h : MainStep s t) (hq : s.seq ≠ .wrDrive) : t.bus.dout = s.bus.dout := by
  by_cases hk : s.seq = .stKey
  · rw [h.bus_of_stKey hk]
  cases h with
  | wrDrive p hp => exact absurd hp hq
  | stKey hp => exact absurd hp hk
  | _ => simp

/-! ## The command registers -/

/-- The loop advance writes the cursor only (43_commands.md R272, R282, R293). -/
theorem cursorNext_regs_rest (p : Profile) (top last : Seq) (s : State) : (cursorNext p top last s).regs =
    { s.regs with cursor := (cursorNext p top last s).regs.cursor } := by
  rcases cursorNext_cases p top last s with ⟨-, e⟩ | ⟨-, e⟩ <;> rw [e] <;> rfl

/-- The loop-top check writes `abort_op` only (43_commands.md R271, R281, R290). -/
theorem loopTop_regs_rest (op : Op) (q : Seq) (s : State) : (loopTop op q s).regs =
    { s.regs with abortOp := (loopTop op q s).regs.abortOp } := by
  rcases loopTop_cases op q s with ⟨-, e⟩ | ⟨-, e⟩ <;> rw [e] <;> rfl

/-- Each register but `cursor` and `abort_op` is written in its own states only (41_dispatcher.md R203, 43_commands.md
R291, R292; 42_bus_sequencer.md R242, R244). -/
theorem MainStep.regs_eq (h : MainStep s t) :
    (s.seq ≠ .frCode → t.regs.cmd = s.regs.cmd) ∧ (s.seq ≠ .wrHi → t.regs.cHi = s.regs.cHi) ∧
    (s.seq ≠ .wrLo → t.regs.cLo = s.regs.cLo) ∧ (s.seq ≠ .wrDrive → t.regs.wdata = s.regs.wdata) ∧
    (s.seq ∉ [.rdSample, .bcSample] → t.regs.rdata = s.regs.rdata) := by
  cases h with
  | rdTop | bcTop | wrTop => rw [loopTop_regs_rest]; simp
  | rdSample _ hq | bcPass _ hq | pulseOff _ hq => rw [cursorNext_regs_rest]; simp [hq]
  | frCode hq | wrHi hq | wrLo hq | wrDrive _ hq | bcFail _ hq => simp [hq]
  | _ => simp

/-! ## O41: Read and BlankCheck -/

theorem regs_eq_of_cursor_rdata_abortOp {r r' : Regs} (hcmd : r'.cmd = r.cmd) (hhi : r'.cHi = r.cHi)
    (hlo : r'.cLo = r.cLo) (hw : r'.wdata = r.wdata) :
    r' = { r with cursor := r'.cursor, rdata := r'.rdata, abortOp := r'.abortOp } := by
  rw [← hcmd, ← hhi, ← hlo, ← hw]

/-- Settles O41: the states of the two commands are no pop, no pulse, no drive and no key step. -/
theorem readAndBlankCheckFrame : Obligations.ReadAndBlankCheckFrame := by
  unfold Obligations.ReadAndBlankCheckFrame
  intro s t h
  obtain ⟨hs, hq⟩ : MainStep s t ∧ s.seq ∈ statesOf .read ++ statesOf .blankCheck := by
    rcases h with h | h <;> exact ⟨.of_exec h, by simp [seq_mem_statesOf h]⟩
  have houtside : ∀ q ∈ statesOf .read ++ statesOf .blankCheck,
      q ∉ popStates ∧ q ∉ [Seq.idle, .frCode, .wrHi, .wrLo, .wrDrive, .wrPulse, .stKey] := by decide
  obtain ⟨hpops, hother⟩ := houtside _ hq
  simp only [List.mem_cons, List.not_mem_nil, or_false, not_or] at hother
  obtain ⟨hidle, hcode, hhi, hlo, hdrive, hpulse, hkey⟩ := hother
  have htarget : t.target = s.target := hs.target.resolve_right fun h => hpulse h.1
  obtain ⟨hcmd, hcHi, hcLo, hwdata, -⟩ := hs.regs_eq
  obtain ⟨hudf, hwait⟩ := hs.udf_eq hpops
  obtain ⟨hscript, hturns⟩ := hs.schedule
  refine ⟨cell_congr htarget, htarget, hs.cfg, hs.activeProf.resolve_right hkey,
    regs_eq_of_cursor_rdata_abortOp (hcmd hcode) (hcHi hhi) (hcLo hlo) (hwdata hdrive), hs.dout_eq hdrive,
    hs.pulsing_eq hpulse, hs.ovfSticky, hudf, hwait, hscript, hturns, fun hd => ?_⟩
  obtain ⟨hfifo, hpause⟩ := hs.fifo_eq hpops hd
  obtain ⟨hflag, hbusy, henv, -⟩ := hs.flags_eq_before_done hd
  exact ⟨hfifo, hflag, hpause, hbusy hidle, henv⟩

/-! ## O42: Write -/

theorem regs_eq_of_cmd_rdata {r r' : Regs} (hcmd : r'.cmd = r.cmd) (hrdata : r'.rdata = r.rdata) :
    r' = { r with cursor := r'.cursor, cHi := r'.cHi, cLo := r'.cLo, wdata := r'.wdata, abortOp := r'.abortOp } := by
  rw [← hcmd, ← hrdata]

/-- A step of `SEQ_MAIN` changes no cell but the one at `ADDR` at the end of a pulse (20_memory.md R87). -/
theorem MainStep.cell_eq (h : MainStep s t) {a : Addr}
    (ha : ¬ (s.seq = .wrPulse ∧ s.pulsing = true ∧ a = s.bus.addr)) : cell t a = cell s a := by
  rcases h.target with e | ⟨hq, hr, e⟩
  · exact cell_congr e a
  · exact (cell_congr e a).trans (cell_program_other fun e => ha ⟨hq, hr, e⟩)

/-- Settles O42: of the states of Write two are pops, one programs a cell, and none is the key step or a sample. -/
theorem writeFrame : Obligations.WriteFrame := by
  unfold Obligations.WriteFrame
  intro s t h
  have hs : MainStep s t := .of_exec h
  have hstates : ∀ q ∈ statesOf .write,
      (q ∉ [Seq.wrHi, .wrLo, .done] → q ∉ popStates) ∧
      (q ∉ [Seq.wrDrive, .wrPulse, .wrEnd, .abort] → q ∉ busStates) ∧
      q ≠ .idle ∧ q ≠ .frCode ∧ q ∉ [.rdSample, .bcSample] ∧ q ≠ .stKey := by decide
  obtain ⟨hpops, hbus, hidle, hcode, hsample, hkey⟩ := hstates _ (seq_mem_statesOf h)
  obtain ⟨hcmd, -, -, -, hrdata⟩ := hs.regs_eq
  obtain ⟨hscript, hturns⟩ := hs.schedule
  refine ⟨fun a ha => hs.cell_eq ha, hs.fitted, hs.cfg, hs.activeProf.resolve_right hkey,
    regs_eq_of_cmd_rdata (hcmd hcode) (hrdata hsample), hs.ovfSticky, hscript, hturns, hs.pulsing_eq,
    fun hq => hs.bus_eq (hbus hq), fun hq => ?fifo, fun hd => ?flags⟩
  case fifo =>
    obtain ⟨hfifo, hpause⟩ := hs.fifo_eq (hpops hq) (by rintro hd; simp [hd] at hq)
    obtain ⟨hudf, hwait⟩ := hs.udf_eq (hpops hq)
    exact ⟨hfifo, hpause, hudf, hwait⟩
  case flags =>
    obtain ⟨hflag, hbusy, henv, hslots, htail⟩ := hs.flags_eq_before_done hd
    exact ⟨hflag, hbusy hidle, henv, hslots, htail⟩

/-! ## O43: the commands without an address loop -/

/-- The states of the commands without an address loop. -/
theorem statesOf_of_not_iterating (hi : i ∉ iterating) :
    statesOf i ⊆ [.dispatch, .ident, .stKey, .baud, .done] := by
  cases i with
  | read | write | blankCheck => simp [iterating] at hi
  | _ => simp [statesOf]

/-- At DISPATCH a command without an address loop goes on, or records its code (41_dispatcher.md R204, R205). -/
theorem exec_dispatch_of_not_iterating (hi : i ∉ iterating) (hq : s.seq = .dispatch) :
    ∃ q l, exec i s = .next { s with seq := q, ev := l } := by
  cases i with
  | read | write | blankCheck => simp [iterating] at hi
  | identify => exact ⟨.ident, s.ev, by simp only [exec, execIdentify, hq]; rfl⟩
  | setDeviceType =>
    cases hv : s.cfg.variant with
    | multiFamily => exact ⟨.stKey, s.ev, by simp only [exec, execSetDeviceType, hq, hv]; rfl⟩
    | singleFamily =>
      exact ⟨.done, s.ev ++ [.unknownCommand 0x35], by simp only [exec, execSetDeviceType, hq, hv]; rfl⟩
  | initBaud => exact ⟨.baud, s.ev, by simp only [exec, execInitBaud, hq]; rfl⟩
  | reserved c => exact ⟨.done, s.ev ++ [.unknownCommand c], by simp only [exec, execReserved, hq]; rfl⟩

theorem MainStep.registers_eq (h : MainStep s t) (hq : s.seq ∈ [.ident, .stKey, .baud, .done]) :
    t.regs = s.regs ∧ t.unwritten = s.unwritten := by
  cases h with
  | popHold | popFail | ident | stKey | baud | done => simp
  | _ => simp [‹s.seq = _›] at hq

/-- A command without an address loop writes no register. -/
theorem registers_eq_of_not_iterating (hi : i ∉ iterating) (h : exec i s = .next t) :
    t.regs = s.regs ∧ t.unwritten = s.unwritten := by
  by_cases hq : s.seq = .dispatch
  · obtain ⟨q, l, e⟩ := exec_dispatch_of_not_iterating hi hq
    obtain rfl := Host.Outcome.next.inj (e.symm.trans h)
    exact ⟨rfl, rfl⟩
  · have hm := statesOf_of_not_iterating hi (seq_mem_statesOf h)
    exact MainStep.registers_eq (.of_exec h) ((List.mem_cons.1 hm).resolve_left hq)

/-- Only a sample without an answer and WR_DRIVE draw a free value (log 7, log 8). -/
theorem MainStep.draws_eq (h : MainStep s t) (hq : s.seq ∉ [.rdSample, .bcSample, .wrDrive]) : t.draws = s.draws := by
  cases h with
  | rdSample _ hp | bcPass _ hp | bcFail _ hp | wrDrive _ hp => simp [hp] at hq
  | _ => simp

/-- Settles O43: of the states of these commands only the key step pops or writes the bus, and none runs a bus cycle. -/
theorem immediateCommandFrame : Obligations.ImmediateCommandFrame := by
  unfold Obligations.ImmediateCommandFrame
  intro i s t hi h
  have hs : MainStep s t := .of_exec h
  have hstates : ∀ q ∈ [Seq.dispatch, .ident, .stKey, .baud, .done],
      (q ≠ .stKey → q ∉ popStates) ∧ (q ≠ .stKey → q ∉ busStates) ∧
      q ≠ .idle ∧ q ≠ .wrPulse ∧ q ∉ [.rdSample, .bcSample, .wrDrive] := by decide
  obtain ⟨hpops, hbus, hidle, hpulse, hdraw⟩ := hstates _ (statesOf_of_not_iterating hi (seq_mem_statesOf h))
  have htarget : t.target = s.target := hs.target.resolve_right fun h => hpulse h.1
  obtain ⟨hregs, hunwritten⟩ := registers_eq_of_not_iterating hi h
  obtain ⟨hscript, hturns⟩ := hs.schedule
  have hctl : t.bus = { s.bus with ctl := t.bus.ctl } := by
    by_cases hk : s.seq = .stKey
    · exact hs.bus_of_stKey hk
    · rw [hs.bus_eq (hbus hk)]
  refine ⟨cell_congr htarget, htarget, hs.cfg, hregs, hctl, hs.pulsing_eq hpulse, hs.ovfSticky, hunwritten,
    hs.draws_eq hdraw, hscript, hturns, fun hk => ?profile, fun hd => ?flags, fun hk hd => hs.fifo_eq (hpops hk) hd⟩
  case profile =>
    obtain ⟨hudf, hwait⟩ := hs.udf_eq (hpops hk)
    exact ⟨hs.activeProf.resolve_right hk, hs.bus_eq (hbus hk), hudf, hwait⟩
  case flags =>
    obtain ⟨hflag, hbusy, henv, hslots, htail⟩ := hs.flags_eq_before_done hd
    exact ⟨hflag, hbusy hidle, henv, hslots, htail⟩

end Sys2Proof.Machine

/-! # Whole commands that nothing disturbs: Read and BlankCheck (43_commands.md R270 to R285) -/

namespace Sys2Proof.Machine

open Sys2Proof

variable {s t u : State} {p : Profile}

/-! ## A run in which only the command moves -/

/-- A fitted target, `active_flag` raised, and nothing but `SEQ_MAIN` moving, with the active profile `p`. -/
structure Undisturbed (p : Profile) (s : State) : Prop where
  quiet : Quiet s
  wellFormed : s.cfg.WellFormed
  profile : activeProfile s = some p
  active : s.activeFlag = true
  fitted : s.target.fitted = true

theorem Undisturbed.congr (h : Undisturbed p s) (henv : t.env = s.env) (hcfg : t.cfg = s.cfg)
    (hprof : t.activeProf = s.activeProf) (hflag : t.activeFlag = s.activeFlag)
    (hfit : t.target.fitted = s.target.fitted) : Undisturbed p t where
  quiet := by rw [Quiet, henv]; exact h.quiet
  wellFormed := hcfg ▸ h.wellFormed
  profile := by rw [activeProfile, hcfg, hprof]; exact h.profile
  active := hflag.trans h.active
  fitted := hfit.trans h.fitted

/-- Addresses of the profile count from 0, and 16 bits hold them (42_bus_sequencer.md R231). -/
theorem Undisturbed.size (h : Undisturbed p s) : 1 ≤ p.size ∧ p.size ≤ 65536 := by
  obtain ⟨hpos, hsize, -⟩ := wellFormed_profile h.wellFormed h.profile
  exact ⟨hpos, hsize⟩

theorem Undisturbed.toNat_ofNat (h : Undisturbed p s) {n : Nat} (hn : n < p.size) : (BitVec.ofNat 16 n).toNat = n :=
  Nat.mod_eq_of_lt (hn.trans_le h.size.2)

theorem steps_one (h : step s = .next t) : steps 1 s = .next t := steps_succ h

/-- Two runs, one after the other. -/
theorem steps_trans {m n : Nat} (h : steps m s = .next t) (h' : steps n t = .next u) :
    steps (m + n) s = .next u := (steps_add h).trans h'

/-- What every step keeps, every run keeps. -/
theorem steps_invariant {P : State → Prop} (hP : ∀ u v, step u = .next v → P u → P v) {n : Nat}
    (h : steps n s = .next t) (hs : P s) : P t := by
  induction n generalizing s with
  | zero => cases h; exact hs
  | succ n ih =>
    cases hstep : step s with
    | next u => rw [steps_succ hstep] at h; exact ih h (hP s u hstep hs)
    | fault r => simp [steps, hstep] at h
    | refused r => simp [steps, hstep] at h

/-- A loop whose body takes `m` steps: what holds at its entry and is passed on by the body holds after `n` rounds. -/
theorem steps_loop {P : Nat → State → Prop} {m N : Nat} (h0 : P 0 s)
    (hnext : ∀ n t, n < N → P n t → ∃ u, steps m t = .next u ∧ P (n + 1) u) {n : Nat} (hn : n ≤ N) :
    ∃ t, steps (m * n) s = .next t ∧ P n t := by
  induction n with
  | zero => exact ⟨s, rfl, h0⟩
  | succ n ih =>
    obtain ⟨t, hrun, ht⟩ := ih (by omega)
    obtain ⟨u, hbody, hu⟩ := hnext n t (by omega) ht
    exact ⟨u, steps_trans hrun hbody, hu⟩

/-- With nothing else moving a step is that of the running command. -/
theorem step_running {i : Instr} (hquiet : Quiet s) (hr : running s = some i) : step s = exec i s := by
  rw [step_quiet hquiet, hr]

/-- A whole command: its DISPATCH, a run of its own, the step that leaves it, and DONE. -/
theorem steps_command {m : Nat} {v : State} (hdispatch : step s = .next t) (hrun : steps m t = .next u)
    (hexit : step u = .next v) (hquiet : Quiet v) (hdone : v.seq = .done) :
    steps (m + 3) s = .next (doneStep v) := by
  have hlast : step v = .next (doneStep v) := by
    rw [step_running hquiet (running_done hdone), exec_done _ hdone]
  rw [show m + 3 = m + 2 + 1 by omega, steps_succ hdispatch]
  exact steps_trans hrun ((steps_succ hexit).trans (steps_one hlast))

/-- After DONE the FIFO is empty (41_dispatcher.md R206). -/
theorem occ_doneStep (h : s.cfg.WellFormed) : occ (doneStep s) = 0 :=
  occ_clear (s := s) (by have := wellFormed_capacity h; omega)

theorem emit_nil (s : State) : emit [] s = s := by
  simp [emit]

/-! ## One read cycle -/

/-- The state at the sample step of a read cycle: the cursor on the address bus, the data bus released, the pattern
driven (42_bus_sequencer.md R240, R241). -/
def atSample (pat : Ctl) (q : Seq) (s : State) : State :=
  { s with bus := { s.bus with addr := s.regs.cursor, dir := .input, ctl := pat }, seq := q }

section
variable (pat : Ctl) (q : Seq) (s : State)

@[simp] theorem atSample_cfg : (atSample pat q s).cfg = s.cfg := rfl
@[simp] theorem atSample_activeFlag : (atSample pat q s).activeFlag = s.activeFlag := rfl
@[simp] theorem atSample_regs : (atSample pat q s).regs = s.regs := rfl
@[simp] theorem atSample_activeProf : (atSample pat q s).activeProf = s.activeProf := rfl
@[simp] theorem atSample_out : (atSample pat q s).out = s.out := rfl
@[simp] theorem atSample_target : (atSample pat q s).target = s.target := rfl
@[simp] theorem atSample_env : (atSample pat q s).env = s.env := rfl
@[simp] theorem atSample_bus : (atSample pat q s).bus =
    { s.bus with addr := s.regs.cursor, dir := .input, ctl := pat } := rfl

end

theorem undisturbed_atSample (h : Undisturbed p s) (pat : Ctl) (q : Seq) : Undisturbed p (atSample pat q s) :=
  h.congr rfl rfl rfl rfl rfl

/-- A fitted chip answers with the cell under the cursor (42_bus_sequencer.md R243). -/
theorem busByte_atSample (h : Undisturbed p s) (pat : Ctl) (q : Seq) :
    busByte pat (atSample pat q s) = cell s s.regs.cursor := by
  have hdrives : targetDrives pat (atSample pat q s) = true := by
    simp [targetDrives, h.fitted]
  rw [busByte, hdrives]
  rfl

/-- The loop top, the address step and the enable step of one address. -/
theorem steps_atSample {op : Op} {q₁ q₂ q₃ : Seq} {pat : Ctl} (h : Undisturbed p s)
    (htop : step s = .next (loopTop op q₁ s))
    (haddr : ∀ u, Undisturbed p u → u.seq = q₁ → step u = .next (driveAddress q₂ u))
    (hen : ∀ u, Undisturbed p u → u.seq = q₂ → step u = .next (enableRead pat q₃ u)) :
    steps 3 s = .next (atSample pat q₃ s) := by
  have haddr' := haddr (goto q₁ s) (h.congr rfl rfl rfl rfl rfl) rfl
  have hen' := hen (driveAddress q₂ (goto q₁ s)) (h.congr rfl rfl rfl rfl rfl) rfl
  rw [loopTop, if_pos h.active] at htop
  rw [steps_succ htop, steps_succ haddr', steps_succ hen']
  rfl

theorem steps_read_atSample (h : Undisturbed p s) (hq : s.seq = .rdTop) :
    steps 3 s = .next (atSample p.ctlRead .rdSample s) := by
  refine steps_atSample (op := .read) (q₁ := .rdAddr) (q₂ := .rdEn) h ?top (fun u hu hq => ?addr) fun u hu hq => ?en
  case top => rw [step_running (i := .read) h.quiet (by rw [running, hq]), exec_read_rdTop hq]
  case addr =>
    rw [step_running (i := .read) hu.quiet (by rw [running, hq])]
    simp only [exec, execRead, hq]
  case en =>
    rw [step_running (i := .read) hu.quiet (by rw [running, hq])]
    simp only [exec, execRead, hq, withProfile_some hu.profile]

theorem steps_blankCheck_atSample (h : Undisturbed p s) (hq : s.seq = .bcTop) :
    steps 3 s = .next (atSample p.ctlBlank .bcSample s) := by
  refine steps_atSample (op := .blankCheck) (q₁ := .bcAddr) (q₂ := .bcEn) h ?top (fun u hu hq => ?addr)
    fun u hu hq => ?en
  case top => rw [step_running (i := .blankCheck) h.quiet (by rw [running, hq]), exec_blankCheck_bcTop hq]
  case addr =>
    rw [step_running (i := .blankCheck) hu.quiet (by rw [running, hq])]
    simp only [exec, execBlankCheck, hq]
  case en =>
    rw [step_running (i := .blankCheck) hu.quiet (by rw [running, hq])]
    simp only [exec, execBlankCheck, hq, withProfile_some hu.profile]

/-! ## The scan -/

/-- The cells of the target, by address (10_state.md R65). -/
abbrev targetCells (s : State) : Nat → Byte := memGet .target s.target.cells

/-- The read cycles of the first `n` addresses, as they are recorded (60_exceptions.md R340). -/
def readCycles (s : State) (n : Nat) : List Event :=
  (List.range n).map fun a => .readCycle (BitVec.ofNat 16 a) (targetCells s a)

theorem readCycles_succ (s : State) (n : Nat) :
    readCycles s (n + 1) = readCycles s n ++ [.readCycle (BitVec.ofNat 16 n) (targetCells s n)] := by
  simp [readCycles, List.range_succ]

/-- A scan of profile `p` from the state `s`, after `n` addresses, with `printed` on the output: the next address is
under the cursor at the loop top, or the loop has ended. -/
structure Scanned (p : Profile) (top last : Seq) (s : State) (n : Nat) (printed : List Byte) (t : State) : Prop where
  undisturbed : Undisturbed p t
  target : t.target = s.target
  seq : t.seq = if n = p.size then last else top
  cursor : n < p.size → t.regs.cursor = BitVec.ofNat 16 n
  out : t.out = s.out ++ printed
  ev : t.ev = s.ev ++ readCycles s n

variable {top last : Seq} {n : Nat} {printed : List Byte}

/-- The entry of the loop (41_dispatcher.md R204). -/
theorem scanned_enterLoop (h : Undisturbed p s) : Scanned p top last s 0 [] (enterLoop top s) where
  undisturbed := h.congr rfl rfl rfl rfl rfl
  target := rfl
  seq := (if_neg (Nat.ne_of_lt h.size.1)).symm
  cursor _ := rfl
  out := by simp
  ev := by simp [readCycles]

theorem Scanned.cursor_toNat (h : Scanned p top last s n printed t) (hn : n < p.size) : t.regs.cursor.toNat = n := by
  rw [h.cursor hn, h.undisturbed.toNat_ofNat hn]

/-- The byte that the sample of the next address gives. -/
theorem Scanned.sampled_byte (h : Scanned p top last s n printed t) (hn : n < p.size) (pat : Ctl) (q : Seq) :
    busByte pat (atSample pat q t) = targetCells s n := by
  rw [busByte_atSample h.undisturbed, cell, h.target, h.cursor_toNat hn, targetCells]

/-- The cycle of the next address, as it is recorded. -/
theorem Scanned.sampled_ev (h : Scanned p top last s n printed t) (hn : n < p.size) (pat : Ctl) (q : Seq) :
    (sample pat (atSample pat q t)).ev = s.ev ++ readCycles s (n + 1) := by
  rw [sample_ev, h.sampled_byte hn, readCycles_succ, ← List.append_assoc, ← h.ev, ← h.cursor hn]
  rfl

/-- One address further: its cycle is recorded, `item` is printed, and the cursor goes on (43_commands.md R272,
R282). -/
theorem Scanned.next {item : List Byte} {pat : Ctl} {q : Seq} (h : Scanned p top last s n printed t) (hn : n < p.size) :
    Scanned p top last s (n + 1) (printed ++ item)
      (cursorNext p top last (emit item (sample pat (atSample pat q t)))) where
  undisturbed := h.undisturbed.congr (by simp) (by simp) (by simp) (by simp) (by simp)
  target := by simpa using h.target
  seq := by simp [h.cursor_toNat hn]
  cursor hlt := by simp [h.cursor_toNat hn, hlt.ne]
  out := by simp [h.out]
  ev := by rw [cursorNext_ev, emit_ev, h.sampled_ev hn]

/-! ## O57: Read -/

/-- The four steps of one address of Read. -/
theorem Scanned.read_next (hn : n < p.size) (h : Scanned p .rdTop .rdEnd s n printed t) :
    ∃ u, steps 4 t = .next u ∧
      Scanned p .rdTop .rdEnd s (n + 1) (printed ++ dumpItem p.size (BitVec.ofNat 16 n) (targetCells s n)) u := by
  have hcycle := steps_read_atSample h.undisturbed (h.seq.trans (if_neg hn.ne))
  have hu := undisturbed_atSample h.undisturbed p.ctlRead .rdSample
  have haddr : t.regs.cursor.toNat < p.size := (h.cursor_toNat hn).trans_lt hn
  have hsample := (step_running hu.quiet rfl).trans (exec_read_rdSample hu.profile rfl haddr)
  rw [h.sampled_byte hn] at hsample
  refine ⟨_, steps_trans hcycle (steps_one hsample), ?_⟩
  rw [← h.cursor hn]
  exact h.next hn

/-- Read's DISPATCH, loop, RD_END and DONE. -/
theorem Undisturbed.steps_read (h : Undisturbed p s) (hq : s.seq = .dispatch) (hcmd : s.regs.cmd = 0x31) :
    ∃ t, Scanned p .rdTop .rdEnd s p.size (dump p.size (targetCells s) p.size) t ∧
      steps (4 * p.size + 3) s = .next (doneStep (goto .done (busSafe p t))) := by
  obtain ⟨t, hrun, ht⟩ := steps_loop (P := fun n => Scanned p .rdTop .rdEnd s n (dump p.size (targetCells s) n))
    (scanned_enterLoop h) (fun n t hn ht => ht.read_next hn) le_rfl
  have hdispatch : step s = .next (enterLoop .rdTop s) := by
    rw [step_running (i := .read) h.quiet (by rw [running_dispatch hq, hcmd]; rfl)]
    simp only [exec, execRead, hq]
  have hend : t.seq = .rdEnd := ht.seq.trans (if_pos rfl)
  have hexit : step t = .next (goto .done (busSafe p t)) := by
    rw [step_running (i := .read) ht.undisturbed.quiet (by rw [running, hend]),
      exec_read_rdEnd ht.undisturbed.profile hend]
  exact ⟨t, ht, steps_command hdispatch hrun hexit ht.undisturbed.quiet rfl⟩

/-- Settles O57: what the scan has left is still there after RD_END and DONE. -/
theorem readDumpsTheWholeTarget : Obligations.ReadDumpsTheWholeTarget := by
  unfold Obligations.ReadDumpsTheWholeTarget
  intro s p hquiet hwf hp hq hcmd hf hfit
  obtain ⟨t, ht, hrun⟩ := Undisturbed.steps_read ⟨hquiet, hwf, hp, hf, hfit⟩ hq hcmd
  exact ⟨doneStep (goto .done (busSafe p t)), hrun, rfl, rfl, ht.out, ht.ev, ht.target, rfl, rfl,
    occ_doneStep (s := goto .done (busSafe p t)) ht.undisturbed.wellFormed⟩

/-! ## O58: BlankCheck -/

/-- The sample step of BlankCheck. -/
theorem Scanned.step_bcSample (hn : n < p.size) (h : Scanned p .bcTop .bcEnd s n printed t) :
    step (atSample p.ctlBlank .bcSample t) = .next (if targetCells s n = 0xFF
      then cursorNext p .bcTop .bcEnd (sample p.ctlBlank (atSample p.ctlBlank .bcSample t))
      else blankFail p (sample p.ctlBlank (atSample p.ctlBlank .bcSample t))) := by
  have hu := undisturbed_atSample h.undisturbed p.ctlBlank .bcSample
  have haddr : t.regs.cursor.toNat < p.size := (h.cursor_toNat hn).trans_lt hn
  rw [← h.sampled_byte hn p.ctlBlank .bcSample]
  exact (step_running hu.quiet rfl).trans (exec_blankCheck_bcSample hu.profile rfl haddr)

/-- The four steps of one erased address of BlankCheck, which print nothing. -/
theorem Scanned.blankCheck_next (hn : n < p.size) (he : targetCells s n = 0xFF) (h : Scanned p .bcTop .bcEnd s n [] t) :
    ∃ u, steps 4 t = .next u ∧ Scanned p .bcTop .bcEnd s (n + 1) [] u := by
  have hcycle := steps_blankCheck_atSample h.undisturbed (h.seq.trans (if_neg hn.ne))
  have hsample := h.step_bcSample hn
  rw [if_pos he] at hsample
  have hnext := h.next (item := []) (pat := p.ctlBlank) (q := .bcSample) hn
  rw [emit_nil, List.append_nil] at hnext
  exact ⟨_, steps_trans hcycle (steps_one hsample), hnext⟩

/-- BlankCheck over the first `n` addresses, all erased. -/
theorem steps_blankCheck_loop (h : Undisturbed p s) (hn : n ≤ p.size) (he : ∀ a < n, targetCells s a = 0xFF) :
    ∃ t, steps (4 * n) (enterLoop .bcTop s) = .next t ∧ Scanned p .bcTop .bcEnd s n [] t :=
  steps_loop (P := fun n => Scanned p .bcTop .bcEnd s n []) (scanned_enterLoop h)
    (fun _ _ ha ht => ht.blankCheck_next (ha.trans_le hn) (he _ ha)) le_rfl

theorem step_blankCheck_dispatch (h : Undisturbed p s) (hq : s.seq = .dispatch) (hcmd : s.regs.cmd = 0x33) :
    step s = .next (enterLoop .bcTop s) := by
  rw [step_running (i := .blankCheck) h.quiet (by rw [running_dispatch hq, hcmd]; rfl)]
  simp only [exec, execBlankCheck, hq]

/-- Settles O58: up to the first address that is not erased the scan goes on and prints nothing; there `blank_fail()`
ends it, and without such an address BC_END does. -/
theorem blankCheckReportsFirstFailure : Obligations.BlankCheckReportsFirstFailure := by
  unfold Obligations.BlankCheckReportsFirstFailure
  intro s p hquiet hwf hp hq hcmd hf hfit
  have h : Undisturbed p s := ⟨hquiet, hwf, hp, hf, hfit⟩
  have hdispatch := step_blankCheck_dispatch h hq hcmd
  refine ⟨fun k hk hne he => ?fails, fun he => ?passes⟩
  case fails =>
    obtain ⟨t, hrun, ht⟩ := steps_blankCheck_loop h hk.le he
    have hcycle := steps_blankCheck_atSample ht.undisturbed (ht.seq.trans (if_neg hk.ne))
    have hexit := ht.step_bcSample hk
    rw [if_neg hne] at hexit
    have hev := ht.sampled_ev hk p.ctlBlank .bcSample
    have hbyte := ht.sampled_byte hk p.ctlBlank .bcSample
    refine ⟨_, steps_command hdispatch (steps_trans hrun hcycle) hexit ?quiet (blankFail_seq _ _), rfl, ?out, ?ev,
      ?target, ?ctl, ?dir⟩
    case quiet => simpa [Quiet] using ht.undisturbed.quiet
    case out => simp [hbyte, ht.out, ht.cursor hk]
    case ev =>
      rw [doneStep_ev, blankFail_ev, hev, sample_rdata, hbyte, sample_cursor]
      simp [ht.cursor hk, readCycles]
    case target => simpa using ht.target
    case ctl => simp
    case dir => simp
  case passes =>
    obtain ⟨t, hrun, ht⟩ := steps_blankCheck_loop h le_rfl he
    have hend : t.seq = .bcEnd := ht.seq.trans (if_pos rfl)
    have hexit : step t = .next (goto .done (emit textOk (busSafe p t))) := by
      rw [step_running (i := .blankCheck) ht.undisturbed.quiet (by rw [running, hend]),
        exec_blankCheck_bcEnd ht.undisturbed.profile hend]
    have hcycles : readCycles s p.size = (List.range p.size).map fun a => .readCycle (BitVec.ofNat 16 a) 0xFF :=
      List.map_congr_left fun a ha => by rw [targetCells, he a (List.mem_range.1 ha)]
    refine ⟨doneStep (goto .done (emit textOk (busSafe p t))),
      steps_command hdispatch hrun hexit ht.undisturbed.quiet rfl, rfl, ?_, ?_, ht.target, rfl, rfl⟩
    · simp [ht.out, textOk]
    · simp [ht.ev, hcycles]

end Sys2Proof.Machine

/-! # A whole Write that nothing disturbs, and the round trip (43_commands.md R290 to R296) -/

namespace Sys2Proof.Machine

open Sys2Proof

variable {s t u : State} {p : Profile} {payload rest : List Byte} {n : Nat}

/-! ## The payload -/

/-- A hexadecimal character needs no draw (30_encoding.md R126). -/
theorem nibbleOf_of_isSome {c : Byte} (h : (hexval c).isSome = true) (n : Nat) : nibbleOf c n = nibbleOf c 0 := by
  obtain ⟨v, hv⟩ := Option.isSome_iff_exists.1 h
  simp [nibbleOf, hv]

theorem drawsAfter_of_isSome {c : Byte} (h : (hexval c).isSome = true) (n : Nat) : drawsAfter c n = n := by
  simp [drawsAfter, h]

/-- The byte that a pair of characters spells (30_encoding.md R127). -/
def pairByte (hi lo : Byte) : Byte := joinNibbles (nibbleOf hi 0) (nibbleOf lo 0)

/-- The byte that the payload spells for an address. -/
def payloadByte (payload : List Byte) (a : Nat) : Byte :=
  pairByte (payload[2 * a]?.getD 0) (payload[2 * a + 1]?.getD 0)

theorem payloadByte_eq {a : Nat} {hi lo : Byte} (hhi : payload[2 * a]? = some hi)
    (hlo : payload[2 * a + 1]? = some lo) : payloadByte payload a = pairByte hi lo := by
  rw [payloadByte, hhi, hlo]
  rfl

/-! ## The two pops of an address -/

theorem contents_congr (hc : t.cfg = s.cfg) (hf : t.fifo = s.fifo) : contents t = contents s := by
  simp only [contents, occ, slot, hc, hf]

theorem Undisturbed.step_wrHi (h : Undisturbed p s) (hq : s.seq = .wrHi) (hw : s.udfWait = false) (ho : 0 < occ s) :
    step s = .next (goto .wrLo (setCHi (oldest s) (popData s))) := by
  rw [step_running (i := .write) h.quiet (by rw [running, hq]), exec_write_wrHi hq, withPop_data _ hw ho]

theorem Undisturbed.step_wrLo (h : Undisturbed p s) (hq : s.seq = .wrLo) (hw : s.udfWait = false) (ho : 0 < occ s) :
    step s = .next (goto .wrDrive (setCLo (oldest s) (popData s))) := by
  rw [step_running (i := .write) h.quiet (by rw [running, hq]), exec_write_wrLo hq, withPop_data _ hw ho]

/-- The state at WR_DRIVE once the two characters of an address are popped (43_commands.md R291, R292). -/
def loaded (s : State) : State :=
  goto .wrDrive (setCLo (oldest (popData s)) (setCHi (oldest s) (popData (popData s))))

theorem undisturbed_loaded (h : Undisturbed p s) : Undisturbed p (loaded s) := h.congr rfl rfl rfl rfl rfl

/-- After the first of two pops a byte is left. -/
theorem occ_popData_pos (hi : IndicesOk s) (ho : 2 ≤ occ s) : 0 < occ (popData s) := by
  obtain ⟨-, hh, ht, -⟩ := hi
  rw [occ_popData hh ht (by omega)]
  omega

/-- WR_TOP, WR_HI and WR_LO of one address. -/
theorem Undisturbed.steps_loaded (h : Undisturbed p s) (hq : s.seq = .wrTop) (hi : IndicesOk s)
    (hw : s.udfWait = false) (ho : 2 ≤ occ s) : steps 3 s = .next (loaded s) := by
  have htop : step s = .next (goto .wrHi s) := by
    rw [step_running (i := .write) h.quiet (by rw [running, hq]), exec_write_wrTop hq, loopTop, if_pos h.active]
  have h1 : Undisturbed p (goto .wrHi s) := h.congr rfl rfl rfl rfl rfl
  have h2 : Undisturbed p (goto .wrLo (setCHi (oldest s) (popData s))) := h.congr rfl rfl rfl rfl rfl
  have hhi := h1.step_wrHi rfl hw (Nat.zero_lt_of_lt ho)
  have hlo := h2.step_wrLo rfl hw (occ_popData_pos hi ho)
  exact (steps_succ htop).trans ((steps_succ hhi).trans (steps_one hlo))

/-- The two characters come off the front of the stored bytes. -/
theorem contents_eq_pair (hi : IndicesOk s) (ho : 2 ≤ occ s) :
    contents s = oldest s :: oldest (popData s) :: contents (loaded s) := by
  rw [contents_popData hi (by omega), contents_popData (popData_indicesOk hi) (occ_popData_pos hi ho)]
  rfl

/-! ## One programming cycle -/

/-- The state after WR_DRIVE and the two halves of WR_PULSE (42_bus_sequencer.md R244, R245). -/
def programmed (p : Profile) (s : State) : State :=
  cursorNext p .wrTop .wrEnd (pulseDeassert p (pulseAssert p (driveData p s)))

theorem undisturbed_programmed (h : Undisturbed p s) : Undisturbed p (programmed p s) :=
  h.congr (by simp [programmed]) (by simp [programmed]) (by simp [programmed]) (by simp [programmed])
    (by simp [programmed, apply_ite Target.fitted])

theorem Undisturbed.steps_programmed (h : Undisturbed p s) (hq : s.seq = .wrDrive) (hoff : s.pulsing = false)
    (ha : s.regs.cursor.toNat < p.size) : steps 3 s = .next (programmed p s) := by
  have h1 : Undisturbed p (driveData p s) := h.congr (by simp) (by simp) (by simp) (by simp) (by simp)
  have h2 : Undisturbed p (pulseAssert p (driveData p s)) := h1.congr rfl rfl rfl rfl rfl
  have drive : step s = .next (driveData p s) := by
    rw [step_running (i := .write) h.quiet (by rw [running, hq]), exec_write_wrDrive h.profile hq]
  have on : step (driveData p s) = .next (pulseAssert p (driveData p s)) := by
    rw [step_running (i := .write) h1.quiet (by simp [running]),
      exec_write_pulseOn h1.profile (by simp) (by simpa using hoff)]
  have off : step (pulseAssert p (driveData p s)) = .next (programmed p s) := by
    rw [step_running (i := .write) h2.quiet (by simp [running]),
      exec_write_pulseOff h2.profile (by simp) (by simp) (by simpa using ha)]
    rfl
  rw [steps_succ drive, steps_succ on, steps_one off]

/-- Over an erased cell the cycle stores the byte that the two characters spell, and changes no other cell
(20_memory.md R86 b, R87). -/
theorem cells_programmed (hm : Memory.wf .target s.target.cells = true) (hf : s.target.fitted = true)
    (he : targetCells s s.regs.cursor.toNat = 0xFF) (hhi : (hexval s.regs.cHi).isSome = true)
    (hlo : (hexval s.regs.cLo).isSome = true) (p : Profile) (a : Nat) :
    targetCells (programmed p s) a =
      if a = s.regs.cursor.toNat then pairByte s.regs.cHi s.regs.cLo else targetCells s a := by
  have htarget : (programmed p s).target.cells =
      memSet .target s.target.cells s.regs.cursor.toNat (pairByte s.regs.cHi s.regs.cLo) := by
    have hstored : ∀ d, Config.programFn 255#8 d = d := programFn_erased
    simp [programmed, hf, cell, he, hstored, pairByte, nibbleOf_of_isSome hhi s.draws,
      nibbleOf_of_isSome hlo (drawsAfter _ _)]
  rw [targetCells, htarget]
  split
  · next e => rw [e, memGet_memSet_same hm]
  · next e => rw [memGet_memSet_other e]

/-! ## The loop -/

theorem Inv.wellFormed (h : Inv s) : s.cfg.WellFormed := by
  obtain ⟨-, -, ⟨hwf, -⟩, -⟩ := h
  exact hwf


/-- The premises of a Write whose payload is whole in the FIFO: `payload` first among the stored bytes, two hexadecimal
characters for each address, and an erased target. -/
structure PayloadReady (p : Profile) (payload rest : List Byte) (s : State) : Prop where
  stored : contents s = payload ++ rest
  length : payload.length = 2 * p.size
  hex : ∀ c ∈ payload, (hexval c).isSome = true
  erased : ∀ a, a < p.size → targetCells s a = 0xFF

/-- A Write of profile `p` from the state `s`, after `n` addresses: the payload's pairs of the later addresses are
stored, the earlier cells are programmed, and nothing was printed or drawn. -/
structure Written (p : Profile) (payload rest : List Byte) (s : State) (n : Nat) (t : State) : Prop where
  undisturbed : Undisturbed p t
  memory : MemoryOk t
  indices : IndicesOk t
  udfWait : t.udfWait = false
  pulsing : t.pulsing = false
  seq : t.seq = if n = p.size then .wrEnd else .wrTop
  cursor : n < p.size → t.regs.cursor = BitVec.ofNat 16 n
  stored : contents t = payload.drop (2 * n) ++ rest
  cells : ∀ a, targetCells t a = if a < n then payloadByte payload a else targetCells s a
  out : t.out = s.out
  draws : t.draws = s.draws

/-- The entry of the loop (41_dispatcher.md R204). -/
theorem written_enterLoop (h : Undisturbed p s) (hinv : Inv s) (hq : s.seq = .dispatch)
    (hp : PayloadReady p payload rest s) : Written p payload rest s 0 (enterLoop .wrTop s) := by
  obtain ⟨hmem, hind, -, hframe, -, -, hbus, -⟩ := hinv
  exact {
    undisturbed := h.congr rfl rfl rfl rfl rfl
    memory := hmem
    indices := hind
    udfWait := hframe.udfWait_eq_false (by simp [hq])
    pulsing := by simpa [hq] using hbus.2
    seq := (if_neg (Nat.ne_of_lt h.size.1)).symm
    cursor := fun _ => rfl
    stored := hp.stored
    cells := fun _ => rfl
    out := rfl
    draws := rfl }

/-- The pair of the next address, and what is stored behind it. -/
theorem Written.pair (h : Written p payload rest s n t) (hp : PayloadReady p payload rest s) (hn : n < p.size) :
    2 ≤ occ t ∧ payload[2 * n]? = some (oldest t) ∧ payload[2 * n + 1]? = some (oldest (popData t)) ∧
      contents (loaded t) = payload.drop (2 * (n + 1)) ++ rest := by
  have hlen := hp.length
  have hstored := h.stored
  rw [List.drop_eq_getElem_cons (by omega), List.drop_eq_getElem_cons (by omega)] at hstored
  have ho : 2 ≤ occ t := by rw [← length_contents, hstored]; simp; omega
  rw [contents_eq_pair h.indices ho] at hstored
  simp only [List.cons_append, List.cons.injEq] at hstored
  obtain ⟨hhi, hlo, hrest⟩ := hstored
  exact ⟨ho, by rw [hhi, List.getElem?_eq_getElem], by rw [hlo, List.getElem?_eq_getElem], hrest⟩

theorem Written.cursor_toNat (h : Written p payload rest s n t) (hn : n < p.size) : t.regs.cursor.toNat = n := by
  rw [h.cursor hn, h.undisturbed.toNat_ofNat hn]

/-- The popped pair is of hexadecimal characters. -/
theorem Written.pair_isSome (h : Written p payload rest s n t) (hp : PayloadReady p payload rest s) (hn : n < p.size) :
    (hexval (oldest t)).isSome = true ∧ (hexval (oldest (popData t))).isSome = true := by
  obtain ⟨-, hhi, hlo, -⟩ := h.pair hp hn
  exact ⟨hp.hex _ (List.mem_of_getElem? hhi), hp.hex _ (List.mem_of_getElem? hlo)⟩

/-- The next cell was still erased, and holds the byte of the next pair after its cycle. -/
theorem Written.cells_next (h : Written p payload rest s n t) (hp : PayloadReady p payload rest s) (hn : n < p.size)
    (a : Nat) : targetCells (programmed p (loaded t)) a =
      if a < n + 1 then payloadByte payload a else targetCells s a := by
  obtain ⟨-, hhi, hlo, -⟩ := h.pair hp hn
  obtain ⟨hxhi, hxlo⟩ := h.pair_isSome hp hn
  have herased : targetCells t n = 0xFF := by rw [h.cells, if_neg (lt_irrefl n), hp.erased n hn]
  have hcycle : targetCells (programmed p (loaded t)) a =
      if a = n then pairByte (oldest t) (oldest (popData t)) else targetCells t a := by
    rw [← h.cursor_toNat hn] at herased ⊢
    exact cells_programmed (s := loaded t) h.memory.2 h.undisturbed.fitted herased hxhi hxlo p a
  rw [hcycle]
  by_cases ha : a = n
  · rw [if_pos ha, ha, if_pos n.lt_succ_self, payloadByte_eq hhi hlo]
  · rw [if_neg ha, h.cells, if_congr (show a < n ↔ a < n + 1 by omega) rfl rfl]

/-- The six steps of one address of Write. -/
theorem Written.next (hn : n < p.size) (hp : PayloadReady p payload rest s) (h : Written p payload rest s n t) :
    ∃ u, steps 6 t = .next u ∧ Written p payload rest s (n + 1) u := by
  obtain ⟨ho, -, -, hstored⟩ := h.pair hp hn
  obtain ⟨hxhi, hxlo⟩ := h.pair_isSome hp hn
  have hcursor := h.cursor_toNat hn
  have hload := h.undisturbed.steps_loaded (h.seq.trans (if_neg hn.ne)) h.indices h.udfWait ho
  have hl := undisturbed_loaded h.undisturbed
  have hrun : steps 6 t = .next (programmed p (loaded t)) :=
    steps_trans hload (hl.steps_programmed rfl h.pulsing (hcursor.trans_lt hn))
  refine ⟨programmed p (loaded t), hrun, ?_⟩
  exact {
    undisturbed := undisturbed_programmed hl
    memory := steps_invariant (fun u v hu hm => everyStepKeepsMemoryCanonical u v hm hu) hrun h.memory
    indices := steps_invariant (fun _ _ => step_indicesOk) hrun h.indices
    udfWait := by simpa [programmed, loaded] using h.udfWait
    pulsing := by simp [programmed]
    seq := by simp [programmed, loaded, hcursor]
    cursor := fun hlt => by simp [programmed, loaded, hcursor, hlt.ne]
    stored := by rw [← hstored]; exact contents_congr (by simp [programmed]) (by simp [programmed])
    cells := h.cells_next hp hn
    out := by simpa [programmed, loaded] using h.out
    draws := by simp [programmed, loaded, drawsAfter_of_isSome hxhi, drawsAfter_of_isSome hxlo, h.draws] }

/-- Write's DISPATCH, loop, WR_END and DONE. -/
theorem Undisturbed.steps_write (h : Undisturbed p s) (hinv : Inv s) (hq : s.seq = .dispatch)
    (hcmd : s.regs.cmd = 0x32) (hp : PayloadReady p payload rest s) :
    ∃ t, Written p payload rest s p.size t ∧
      steps (6 * p.size + 3) s = .next (doneStep (goto .done (emit textOk (busSafe p t)))) := by
  obtain ⟨t, hrun, ht⟩ := steps_loop (P := Written p payload rest s)
    (written_enterLoop h hinv hq hp) (fun n t hn ht => ht.next hn hp) le_rfl
  have hdispatch : step s = .next (enterLoop .wrTop s) := by
    rw [step_running (i := .write) h.quiet (by rw [running_dispatch hq, hcmd]; rfl)]
    simp only [exec, execWrite, hq]
  have hend : t.seq = .wrEnd := ht.seq.trans (if_pos rfl)
  have hexit : step t = .next (goto .done (emit textOk (busSafe p t))) := by
    rw [step_running (i := .write) ht.undisturbed.quiet (by rw [running, hend]),
      exec_write_wrEnd ht.undisturbed.profile hend]
  exact ⟨t, ht, steps_command hdispatch hrun hexit ht.undisturbed.quiet rfl⟩

/-! ## O59, O60 -/

/-- Settles O59: what the loop has left is still there after WR_END and DONE. -/
theorem writeProgramsThePayload : Obligations.WriteProgramsThePayload := by
  unfold Obligations.WriteProgramsThePayload
  intro s p payload rest hquiet hinv hp hq hcmd hf hfit hstored hlen hhex herased
  obtain ⟨t, ht, hrun⟩ := Undisturbed.steps_write ⟨hquiet, hinv.wellFormed, hp, hf, hfit⟩ hinv hq hcmd
    ⟨hstored, hlen, hhex, herased⟩
  refine ⟨doneStep (goto .done (emit textOk (busSafe p t))), hrun, rfl, ?out, fun a hi lo hhi hlo => ?programmed,
    fun a ha => ?other, rfl, rfl, ht.draws⟩
  case out => simp [ht.out, textOk]
  case programmed =>
    have ha : a < p.size := by have := (List.getElem?_eq_some_iff.1 hlo).1; omega
    exact (ht.cells a).trans ((if_pos ha).trans (payloadByte_eq hhi hlo))
  case other => exact (ht.cells a).trans (if_neg (by omega))

/-- The dump reads the first `n` cells only. -/
theorem dump_congr {size n : Nat} {f g : Nat → Byte} (h : ∀ a < n, f a = g a) : dump size f n = dump size g n := by
  induction n with
  | zero => rfl
  | succ n ih => rw [dump, dump, ih fun a ha => h a (by omega), h n (by omega)]

/-- Settles O60: the Read dumps the cells that the Write has programmed. -/
theorem writeThenReadRoundTrip : Obligations.WriteThenReadRoundTrip := by
  unfold Obligations.WriteThenReadRoundTrip
  intro s p payload rest bytes hquiet hinv hp hq hcmd hf hfit hstored hlen hhex herased hbytes
  obtain ⟨t, ht, hrun⟩ := Undisturbed.steps_write ⟨hquiet, hinv.wellFormed, hp, hf, hfit⟩ hinv hq hcmd
    ⟨hstored, hlen, hhex, herased⟩
  refine ⟨_, doneStep (goto .done (emit textOk (busSafe p t))), hrun, rfl,
    fun u huq hcfg hprof htarget hqu hcmdu hfu => ?_⟩
  have hu : Undisturbed p u := {
    quiet := huq
    wellFormed := hcfg ▸ ht.undisturbed.wellFormed
    profile := by rw [activeProfile, hcfg, hprof]; exact ht.undisturbed.profile
    active := hfu
    fitted := htarget ▸ ht.undisturbed.fitted }
  obtain ⟨v, hv, hread⟩ := hu.steps_read hqu hcmdu
  have hcells : ∀ a < p.size, targetCells u a = bytes a := fun a ha => by
    have hhi : payload[2 * a]? = some payload[2 * a] := List.getElem?_eq_getElem (by omega)
    have hlo : payload[2 * a + 1]? = some payload[2 * a + 1] := List.getElem?_eq_getElem (by omega)
    rw [hbytes a _ _ hhi hlo, targetCells, htarget]
    exact (ht.cells a).trans ((if_pos ha).trans (payloadByte_eq hhi hlo))
  refine ⟨_, doneStep (goto .done (busSafe p v)), hread, rfl, ?_⟩
  rw [← dump_congr hcells]
  exact hv.out

end Sys2Proof.Machine

/-! # No step stops (60_exceptions.md R348), the cancelled loop (R344), and the refused configuration -/

namespace Sys2Proof.Machine

open Sys2Proof

variable {s t : State} {p : Profile} {i : Instr}

/-! ## O56: the command that runs has a step in the present state -/

theorem dispatch_mem_statesOf (i : Instr) : .dispatch ∈ statesOf i := by
  cases i <;> simp [statesOf]

theorem done_mem_statesOf (i : Instr) : .done ∈ statesOf i := by
  cases i <;> simp [statesOf]

theorem abort_mem_statesOf_opInstr (op : Op) : .abort ∈ statesOf (opInstr op) := by
  cases op <;> decide

/-- `step` never asks a command for a step of another one (log 14). -/
theorem seq_mem_statesOf_of_running (h : running s = some i) : s.seq ∈ statesOf i := by
  unfold running at h
  cases hq : s.seq <;> simp only [hq] at h <;> cases h
  case dispatch => exact dispatch_mem_statesOf _
  case done => exact done_mem_statesOf _
  case abort => exact abort_mem_statesOf_opInstr _
  all_goals decide

theorem seq_mem_of_running_eq_none (h : running s = none) : s.seq ∈ [.idle, .frMark, .frCode] := by
  unfold running at h
  cases hq : s.seq <;> simp [hq] at h ⊢

/-- A command goes on in a state of its own that has the profile and the address its step needs. -/
theorem exec_isNext (hm : s.seq ∈ statesOf i) (hl : ¬ LacksProfile s) (ht : ¬ MissesTarget s) :
    ∃ t, exec i s = .next t := by
  obtain ⟨hrefused, hsequence, hprofile, haddress⟩ := answers_iff (exec_answers i s)
  match h : exec i s with
  | .next t => exact ⟨t, rfl⟩
  | .fault .outOfSequence => exact absurd hm (hsequence.1 h)
  | .fault .noProfile =>
    obtain ⟨-, hlacks⟩ := hprofile.1 h
    exact absurd hlacks hl
  | .fault (.targetAddress a) =>
    obtain ⟨-, -, hmisses⟩ := (haddress a).1 h
    exact absurd hmisses ht
  | .refused r => exact absurd h (hrefused r)

/-- The dispatcher's own steps read neither the profile nor the target. -/
theorem dispatcherStep_isNext (hq : s.seq ∈ [.idle, .frMark, .frCode]) : ∃ t, dispatcherStep s = .next t := by
  simp only [List.mem_cons, List.not_mem_nil, or_false] at hq
  rcases hq with hq | hq | hq
  · cases hf : s.activeFlag with
    | true => exact ⟨_, dispatcherStep_idle hq hf⟩
    | false => exact ⟨_, dispatcherStep_idle_held hq hf⟩
  · rw [dispatcherStep_frMark hq]
    exact withPop_isNext s fun _ u => goto .frCode u
  · rw [dispatcherStep_frCode hq]
    exact withPop_isNext s fun v u => goto .dispatch (setCmd v u)

/-! ## O56: the invariants exclude both model faults -/

theorem ProfilesOk.not_lacksProfile (h : ProfilesOk s) : ¬ LacksProfile s := by
  obtain ⟨-, hlt⟩ := h
  simp [LacksProfile, activeProfile, hlt]

/-- A bus cycle ends with the cursor on the address bus, and the cursor is below the size (20_memory.md R82). -/
theorem addr_lt_size_of_endsCycle (h : busAt p s) (hc : EndsCycle s) : s.bus.addr.toNat < p.size := by
  rcases hc with hq | hq | ⟨hq, -⟩ <;> rw [busAt, hq] at h <;> obtain ⟨hlt, -, haddr, -⟩ := h <;> rwa [haddr]

theorem BusOk.not_missesTarget (h : BusOk s) : ¬ MissesTarget s := by
  rintro ⟨hc, p, hp, hsize⟩
  obtain ⟨hlines, -⟩ := h
  exact absurd (addr_lt_size_of_endsCycle (hlines p hp) hc) (by omega)

/-- From a state that meets the invariants `SEQ_MAIN` always goes on. -/
theorem Inv.main_isNext (h : Inv s) (ha : nextAgent s = .main) : ∃ t, step s = .next t := by
  obtain ⟨-, -, hprof, -, -, -, hbus, -⟩ := h
  cases hr : running s with
  | some i =>
    rw [step_of_running ha hr]
    exact exec_isNext (s := takeTurn s) (seq_mem_statesOf_of_running hr)
      (ProfilesOk.not_lacksProfile (s := s) hprof) (BusOk.not_missesTarget (s := s) hbus)
  | none =>
    rw [step_of_running_none ha hr]
    exact dispatcherStep_isNext (s := takeTurn s) (seq_mem_of_running_eq_none hr)

/-- The host always goes on, and `SEQ_MAIN` does by the invariants. -/
theorem Inv.step_isNext (h : Inv s) : ∃ t, step s = .next t := by
  cases ha : nextAgent s with
  | host => exact ⟨hostStep (takeTurn s), by simp only [step, ha]⟩
  | main => exact h.main_isNext ha

/-- Each invariant is kept by every step, so all of them together are. -/
theorem step_inv (hs : step s = .next t) (h : Inv s) : Inv t := by
  obtain ⟨hmem, hidx, hprof, hframe, hbusy, hflow, hbus, hwritten⟩ := h
  obtain ⟨hprof', hbus'⟩ := everyStepKeepsTheBusSafe.1 s t hprof hbus hs
  exact ⟨everyStepKeepsMemoryCanonical s t hmem hs, step_indicesOk hs hidx, hprof',
    everyStepKeepsFrameWaiting s t hmem hidx hframe hs, everyStepKeepsBusyEqualActive s t hbusy hs,
    everyStepKeepsFlowSignalCurrent s t hflow hs, hbus', step_writtenOk hs hwritten⟩

/-- Settles O56: the two model faults need a missing profile or a missing address, and the invariants exclude both;
the next state meets them invariant by invariant. -/
theorem invariantStatesNeverStop : Obligations.InvariantStatesNeverStop := by
  unfold Obligations.InvariantStatesNeverStop
  intro s h
  obtain ⟨t, hs⟩ := h.step_isNext
  exact ⟨t, hs, step_inv hs h⟩

/-! ## O39: a cancelled operation stops at its loop top -/

/-- The loop tops of the three iterating commands, each with its operation (43_commands.md R271, R281, R290). -/
def loopTops : List (Seq × Op) := [(.rdTop, .read), (.bcTop, .blankCheck), (.wrTop, .write)]

/-- With `active_flag = 0` each loop top is the way to ABORT (60_exceptions.md R344). -/
theorem step_cancelled_loopTop {op : Op} (hquiet : Quiet s) (hm : (s.seq, op) ∈ loopTops)
    (hf : s.activeFlag = false) : step s = .next (goto .abort (setAbortOp op s)) := by
  have habort : ∀ q, loopTop op q s = goto .abort (setAbortOp op s) := fun q => if_neg (by simp [hf])
  simp only [loopTops, List.mem_cons, Prod.mk.injEq, List.not_mem_nil, or_false] at hm
  rcases hm with ⟨hq, rfl⟩ | ⟨hq, rfl⟩ | ⟨hq, rfl⟩
  · rw [step_running (i := .read) hquiet (by rw [running, hq]), exec_read_rdTop hq, habort]
  · rw [step_running (i := .blankCheck) hquiet (by rw [running, hq]), exec_blankCheck_bcTop hq, habort]
  · rw [step_running (i := .write) hquiet (by rw [running, hq]), exec_write_wrTop hq, habort]

theorem opInstr_mem_iterating (op : Op) : opInstr op ∈ iterating := by
  cases op <;> decide

/-- What step ABORT leaves, for the active profile `p` (43_commands.md R320). -/
def aborted (p : Profile) (s : State) : State :=
  goto .done (emit (textAborted s.regs.abortOp)
    (raiseEvent (.operationAborted s.regs.abortOp s.regs.cursor) (busSafe p s)))

/-- ABORT is the exit of the operation in `abort_op`. -/
theorem step_abort (hquiet : Quiet s) (hp : activeProfile s = some p) (hq : s.seq = .abort) :
    step s = .next (aborted p s) := by
  rw [step_running (i := opInstr s.regs.abortOp) hquiet (by rw [running, hq]),
    exec_abort (opInstr_mem_iterating _) hq, abortStep, withProfile_some hp, aborted]

theorem step_done (hquiet : Quiet s) (hq : s.seq = .done) : step s = .next (doneStep s) := by
  rw [step_running hquiet (running_done hq), exec_done _ hq]

/-- The loop top, ABORT and DONE of a cancelled operation. -/
theorem steps_cancelled {op : Op} (hquiet : Quiet s) (hp : activeProfile s = some p)
    (hm : (s.seq, op) ∈ loopTops) (hf : s.activeFlag = false) :
    steps 3 s = .next (doneStep (aborted p (goto .abort (setAbortOp op s)))) := by
  have abort := step_abort (s := goto .abort (setAbortOp op s)) hquiet hp rfl
  have done := step_done (s := aborted p (goto .abort (setAbortOp op s))) hquiet rfl
  rw [steps_succ (step_cancelled_loopTop hquiet hm hf), steps_succ abort, steps_one done]

/-- Settles O39: what ABORT writes is still there after DONE, which empties the FIFO. -/
theorem cancelledOperationStopsAtLoopTop : Obligations.CancelledOperationStopsAtLoopTop := by
  unfold Obligations.CancelledOperationStopsAtLoopTop
  intro s p op hquiet hp hwf hm hf
  refine ⟨_, steps_cancelled hquiet hp hm hf, doneStep_seq _, doneStep_busy _, ?_, ?_, ?_, ?_, ?_, ?_, ?_,
    occ_doneStep (by simpa [aborted] using hwf)⟩ <;> simp [aborted]

/-! ## O5: what power-up refuses -/

variable {c : Config} {k : ConfigCheck}

theorem powerUp_eq_refused_iff {a : Addr} {tg : Target} :
    powerUp c a tg = .refused (.configRefused k) ↔ c.failed = some k := by
  cases h : c.failed <;> simp [powerUp, h]

theorem exists_failed_of_not_wellFormed (h : ¬ c.WellFormed) : ∃ k, c.failed = some k :=
  Option.ne_none_iff_exists'.1 fun hn => h (wellFormed_of_failed hn)

theorem passes_eq_false_of_failed (h : c.failed = some k) : c.passes k = false := by
  simpa using List.find?_some h

/-! ## O5: what each check asks -/

theorem passes_watermarks_hysteresis {hwm lwm : Nat} (h : c.fcPolicy = .hysteresis hwm lwm) :
    c.passes .watermarks = true ↔ 1 ≤ lwm ∧ lwm ≤ hwm ∧ (hwm : Int) ≤ (c.capacity : Int) - 2 := by
  simp only [Config.passes, h, FcPolicy.fits, decide_eq_true_eq]
  omega

theorem passes_watermarks_single {m : Nat} (h : c.fcPolicy = .single m) :
    c.passes .watermarks = true ↔ (m : Int) ≤ (c.capacity : Int) - 2 := by
  simp only [Config.passes, h, FcPolicy.fits, decide_eq_true_eq]
  omega

theorem level_ne_hiZ_iff (v : Level) : v ≠ .hiZ ↔ v = .low ∨ v = .high := by
  cases v <;> decide

theorem passes_pulseLevel :
    c.passes .pulseLevel = true ↔ ∀ p ∈ c.profiles, p.pulseLevel = .low ∨ p.pulseLevel = .high := by
  simp only [Config.passes, List.all_eq_true, decide_eq_true_eq, level_ne_hiZ_iff]

/-- Of a driven level, `inv` is the other driven one (42_bus_sequencer.md R231). -/
theorem eq_inv_iff {v w : Level} (h : v = .low ∨ v = .high) :
    w = v.inv ↔ (v = .low → w = .high) ∧ (v = .high → w = .low) := by
  rcases h with rfl | rfl <;> simp [Level.inv]

theorem passes_pulsePattern (h : c.passes .pulseLevel = true) :
    c.passes .pulsePattern = true ↔ ∀ p ∈ c.profiles,
      (p.pulseLevel = .low → p.ctlProg.line p.pulseLine = .high) ∧
      (p.pulseLevel = .high → p.ctlProg.line p.pulseLine = .low) := by
  simp only [Config.passes, List.all_eq_true, decide_eq_true_eq]
  exact forall₂_congr fun p hp => eq_inv_iff (passes_pulseLevel.1 h p hp)

/-- Keys are pairwise distinct when no two places of the table have the same one. -/
theorem nodup_keys_iff (ps : List Profile) : (ps.map Profile.key).Nodup ↔
    ∀ (i j : Nat) (p q : Profile), ps[i]? = some p → ps[j]? = some q → i ≠ j → p.key ≠ q.key := by
  rw [List.Nodup, List.pairwise_map, List.pairwise_iff_getElem]
  constructor
  · intro h i j p q hi hj hne
    obtain ⟨hi', rfl⟩ := List.getElem?_eq_some_iff.1 hi
    obtain ⟨hj', rfl⟩ := List.getElem?_eq_some_iff.1 hj
    rcases Nat.lt_or_gt_of_ne hne with hlt | hgt
    · exact h i j hi' hj' hlt
    · exact (h j i hj' hi' hgt).symm
  · intro h i j hi hj hlt
    exact h i j _ _ (List.getElem?_eq_getElem hi) (List.getElem?_eq_getElem hj) (by omega)

/-- Settles O5: `failed` names a check that does not pass, and each check is its own condition. -/
theorem illFormedConfigIsRefused : Obligations.IllFormedConfigIsRefused := by
  unfold Obligations.IllFormedConfigIsRefused
  intro c a tg
  refine ⟨fun h => ?refused, fun k h => passes_eq_false_of_failed (powerUp_eq_refused_iff.1 h),
    by simp [Config.passes], fun _ _ => passes_watermarks_hysteresis, fun _ => passes_watermarks_single,
    fun hv => by simp [Config.passes, hv], fun hv => by simp [Config.passes, hv], by simp [Config.passes],
    by simp [Config.passes], passes_pulseLevel, passes_pulsePattern, fun hv => by simp [Config.passes, hv],
    fun hv => by simp only [Config.passes, hv, decide_eq_true_eq, nodup_keys_iff]⟩
  case refused =>
    obtain ⟨k, hk⟩ := exists_failed_of_not_wellFormed h
    exact ⟨k, powerUp_eq_refused_iff.2 hk⟩

end Sys2Proof.Machine

/-! # The skid bound (70_reset_and_hazards.md R389), and the state after power-up (R380, R383) -/

namespace Sys2Proof.Machine

open Sys2Proof

variable {s : State} {c : Config}

/-! ## O17: bytes that fit the free slots are accepted -/

/-- Receive steps that together do not overfill the FIFO are all accepted (40_fifo_flow.md R161): each byte but the
last leaves room for the rest. -/
theorem foldl_rx_accepts (bs : List Byte) (hi : IndicesOk s) (hfit : occ s + bs.length ≤ s.cfg.capacity - 1) :
    occ (bs.foldl (fun u b => rx b u) s) = occ s + bs.length ∧
      (bs.foldl (fun u b => rx b u) s).ovfSticky = s.ovfSticky := by
  induction bs generalizing s with
  | nil => exact ⟨rfl, rfl⟩
  | cons b bs ih =>
    rw [List.length_cons] at hfit
    have ⟨_, hh, ht, _⟩ := hi
    have hroom : occ s ≠ s.cfg.capacity - 1 := by omega
    have hocc : occ (rx b s) = occ s + 1 := by rw [occ_rx b hh ht, if_neg hroom]
    have hovf : (rx b s).ovfSticky = s.ovfSticky := by rw [rx_ovfSticky, decide_eq_false hroom, Bool.or_false]
    obtain ⟨hocc', hovf'⟩ := ih (s := rx b s) (rx_indicesOk b hi) (by rw [hocc, rx_cfg]; omega)
    rw [List.foldl_cons, List.length_cons, hocc', hovf', hocc, hovf]
    exact ⟨by omega, rfl⟩

/-- Settles O17: from `occ = mark + 1` a skid of `C - 2 - mark` bytes ends at `occ = C - 1` at most. -/
theorem skidWithinBoundLosesNothing : Obligations.SkidWithinBoundLosesNothing := by
  unfold Obligations.SkidWithinBoundLosesNothing
  intro bs s mark hi hmark hocc hskid
  rw [← hocc]
  exact foldl_rx_accepts bs hi (by omega)

/-! ## O4: the state that power-up answers -/

/-- A well-formed configuration fails no check. -/
theorem failed_eq_none_of_wellFormed (h : c.WellFormed) : c.failed = none :=
  Option.eq_none_iff_forall_ne_some.2 fun k hk => by simpa [h k] using passes_eq_false_of_failed hk

theorem powerUp_of_wellFormed (h : c.WellFormed) (a : Addr) (tg : Target) :
    powerUp c a tg = .next (State.resetWith c a tg) := by
  rw [powerUp, failed_eq_none_of_wellFormed h]

/-- The FIFO is empty after reset: its indices are those of a clear. -/
theorem occ_resetWith (h : c.WellFormed) (a : Addr) (tg : Target) : occ (State.resetWith c a tg) = 0 :=
  (clearReleasesTheFlowSignal.2 c a tg h).1

theorem defaultIdle_of_getElem? {p : Profile} (hp : c.profiles[c.defaultProfile]? = some p) :
    defaultIdle c = p.ctlIdle := by
  rw [defaultIdle, hp]

theorem mem_unwritten_resetWith (c : Config) (a : Addr) (tg : Target) (r : Reg) :
    r ∈ (State.resetWith c a tg).unwritten := by
  cases r <;> simp [State.resetWith]

/-- Settles O4: the answer is `State.resetWith`, whose fields are the reset values; its occupancy and its control
lines are the two that are computed. -/
theorem powerUpGivesResetValues : Obligations.PowerUpGivesResetValues := by
  unfold Obligations.PowerUpGivesResetValues
  intro c a tg h
  exact ⟨_, powerUp_of_wellFormed h a tg, fun _ => rfl, rfl, rfl, occ_resetWith h a tg, rfl, rfl, rfl, rfl, rfl, rfl,
    fun _ hp => defaultIdle_of_getElem? hp, rfl, rfl, rfl, rfl, rfl, rfl, rfl, rfl, rfl, rfl, rfl,
    mem_unwritten_resetWith c a tg, rfl, rfl⟩

/-! ## O6: the invariants after power-up -/

/-- Nothing runs after reset and no register is read before it is written, so what is left to say is about the empty
FIFO, the default profile and the disabled pattern. -/
theorem inv_resetWith {tg : Target} (h : c.WellFormed) (htg : Memory.wf .target tg.cells = true) (a : Addr) :
    Inv (State.resetWith c a tg) := by
  have hcap : 3 ≤ c.capacity := wellFormed_capacity h
  have hindices : IndicesOk (State.resetWith c a tg) :=
    ⟨hcap, show 0 < c.capacity by omega, show c.capacity - 1 < c.capacity by omega, fun _ hm => nomatch hm⟩
  have hprofile : c.defaultProfile < c.profiles.length := by simpa [Config.passes] using h .defaultProfile
  have hframe : FrameOk (State.resetWith c a tg) := by simp [FrameOk, State.resetWith]
  have hflow : FlowOk (State.resetWith c a tg) := by
    rw [FlowOk, occ_resetWith h]
    exact (fcNext_zero (wellFormed_fits h) false).symm
  have hbus : BusOk (State.resetWith c a tg) := ⟨fun _ hp => ⟨defaultIdle_of_getElem? hp, rfl⟩, nofun⟩
  exact ⟨⟨rfl, htg⟩, hindices, ⟨h, hprofile⟩, hframe, rfl, hflow, hbus, nofun⟩

/-! ## O6: the configuration of `State.reset`, whatever its OPEN values are -/

/-- The shaped watermarks are in the range of 00_scope.md R9. -/
theorem fits_shaped {n : Nat} (hn : 3 ≤ n) (p : FcPolicy) : (p.shaped n).fits n = true := by
  cases p with
  | hysteresis hwm lwm =>
    have hl : lwm % (n - 2) < n - 2 := Nat.mod_lt _ (by omega)
    have hh : hwm % (n - 1 - (lwm % (n - 2) + 1)) < n - 1 - (lwm % (n - 2) + 1) := Nat.mod_lt _ (by omega)
    simp only [FcPolicy.shaped, FcPolicy.fits, decide_eq_true_eq]
    omega
  | single m =>
    have hm : m % (n - 1) < n - 1 := Nat.mod_lt _ (by omega)
    simp only [FcPolicy.shaped, FcPolicy.fits, decide_eq_true_eq]
    omega

theorem shaped_size (p : Profile) : 1 ≤ p.shaped.size ∧ p.shaped.size ≤ 65536 := by
  have hsize : p.size % 65536 < 65536 := Nat.mod_lt _ (by omega)
  simp only [Profile.shaped]
  omega

theorem shaped_pulseLevel (p : Profile) : p.shaped.pulseLevel ≠ .hiZ := by
  simp only [Profile.shaped]
  split
  · decide
  · assumption

theorem line_setLine (c : Ctl) (l : Line) (v : Level) : (c.setLine l v).line l = v := by
  cases l <;> rfl

theorem shaped_pulsePattern (p : Profile) :
    p.shaped.ctlProg.line p.shaped.pulseLine = p.shaped.pulseLevel.inv :=
  line_setLine p.ctlProg p.pulseLine _

theorem nodup_openKeys : Config.openKeys.Nodup := by
  simp only [Config.openKeys]
  split
  · assumption
  · decide

theorem length_openKeys : Config.openKeys.length = 4 := by
  simp only [Config.openKeys]
  split <;> rfl

/-- The table's keys are the four of `openKeys`, in their order. -/
theorem map_key_hw : Config.hw.profiles.map Profile.key = Config.openKeys := by
  refine List.ext_getElem (by simp [Config.hw, length_openKeys]) fun i hi hi' => ?_
  simp [Config.hw, hi']

/-- What every shaped profile has, whatever its key, the profiles of `Config.hw` have. -/
theorem forall_profiles_hw {P : Profile → Prop} (h : ∀ (q : Profile) (k : Byte), P { q.shaped with key := k }) :
    ∀ p ∈ Config.hw.profiles, P p := by
  intro p hp
  obtain ⟨i, -, rfl⟩ := List.mem_map.1 hp
  exact h _ _

/-- Every check passes: the watermarks and the profiles by their shape, the keys by `openKeys`, and the rest has the
spec's own values. -/
theorem wellFormed_hw : Config.hw.WellFormed := by
  intro k
  cases k with
  | capacity | profileCount | defaultProfile => simp [Config.passes, Config.hw]
  | watermarks => exact fits_shaped (by decide) Config.openFcPolicy
  | profileSize =>
    simp only [Config.passes, List.all_eq_true, decide_eq_true_eq]
    exact forall_profiles_hw fun q _ => shaped_size q
  | pulseLevel =>
    simp only [Config.passes, List.all_eq_true, decide_eq_true_eq]
    exact forall_profiles_hw fun q _ => shaped_pulseLevel q
  | pulsePattern =>
    simp only [Config.passes, List.all_eq_true, decide_eq_true_eq]
    exact forall_profiles_hw fun q _ => shaped_pulsePattern q
  | keys => exact decide_eq_true (map_key_hw ▸ nodup_openKeys)

/-- Settles O6: the invariants hold in `State.resetWith`, and `State.reset` is its instance at `Config.hw`. -/
theorem resetMeetsEveryInvariant : Obligations.ResetMeetsEveryInvariant := by
  unfold Obligations.ResetMeetsEveryInvariant
  exact ⟨fun c a tg h htg => ⟨_, powerUp_of_wellFormed h a tg, inv_resetWith h htg a⟩, wellFormed_hw,
    powerUp_of_wellFormed wellFormed_hw _ _, inv_resetWith wellFormed_hw rfl _⟩

end Sys2Proof.Machine
